-- ==== Sys2Proof/Config.lean ====
section
/-! DEFINITION. The constants the spec fixes for the WSB-3140: capacities, limits, addresses and the identity word.
The spec leaves no value to an implementation and no result undefined, so no free (opaque) constant stands here. -/

namespace Sys2Proof.Config

/-- 03 R48: the post queue holds up to 16 posted writes. -/
def postCapacity : Nat := 16

/-- 06 R106: the reclaim log holds up to 8 records. -/
def reclaimCapacity : Nat := 8

/-- 07 R123: the backlog holds up to 4 notices. -/
def backlogCapacity : Nat := 4

/-- 07 R125: the write is presented at most 64 times; the 64th WAIT stalls the engine. -/
def waitLimit : Nat := 64

/-- 02 R36, 10 R161: the hold limit and the warm-up setting count units of 16 microseconds. -/
def coarseUnit : Nat := 16

/-- 09 R154, 10 R161: the auto-park interval counts milliseconds. -/
def millisecond : Nat := 1000

/-- 11 11.2: the identity word, device code 0x3140 and revision 1. -/
def identity : BitVec 32 := 0x31400001

/-- 09 R148: the aperture lies at S × 0x1000_0000 + 0x0FFF_0000. -/
def apertureStride : Nat := 0x10000000

/-- 09 R148: the aperture's place in its 256 MiB. -/
def apertureOffset : Nat := 0x0FFF0000

/-- 09 9 (introduction): the aperture is 4 KiB. -/
def apertureSize : Nat := 0x1000

/-- 00 0.7: Trunk addresses are 32-bit byte addresses. -/
def trunkSpace : Nat := 2 ^ 32

/-- 01 R14: half-word indices run to 2^24 − 1. -/
def branchSpace : Nat := 2 ^ 24

/-- 11 11.7: a window or requester of none is written as 0xFF. -/
def noneCode : Nat := 0xFF

/-- 09 R160: the requester quota after hard reset. -/
def resetQuota : BitVec 3 := 2

/-- 09 R160: the hold limit after hard reset, 16,384 microseconds. -/
def resetHoldLimit : BitVec 16 := 1024

/-- 09 R160: the management write mask after hard reset names every requester. -/
def resetWriteMask : BitVec 16 := 0xFFFF

/-- 09 R160: the warm-up setting after hard reset, 64 microseconds. -/
def resetWarmUp : BitVec 6 := 4

end Sys2Proof.Config
end

