-- ==== Sys2Proof/Word.lean ====
section
/-! DEFINITION. The word types of the bridge (00 0.7) and the numbers that name requesters, windows and slots. -/

namespace Sys2Proof

/-- A Trunk word, or a Trunk byte address: 32 bits. -/
abbrev Word := BitVec 32

/-- A Branch half-word: 16 bits. -/
abbrev HalfWord := BitVec 16

/-- A half-word index under one branch select: 24 bits. -/
abbrev BranchIndex := BitVec 24

/-- The four byte lanes of one Trunk word; bit j is lane j. -/
abbrev Lanes := BitVec 4

/-- A Trunk requester ID, 0 to 15. -/
abbrev Requester := Fin 16

/-- A window number, 0 to 15. -/
abbrev WindowNo := Fin 16

/-- A slot number of the pending table, 0 to 7. -/
abbrev Slot := Fin 8

end Sys2Proof
end

