-- ==== Sys2Proof/Syntax.lean ====
section
/-! DEFINITION. The commands of the bridge: one constructor of `Instr` per row of spec/opcode_table.json, with its operands.
The operands are typed so that a value outside the spec's range (a requester above 15, a slot above 7) cannot be written. -/

namespace Sys2Proof

/-- The kind of a Trunk request or a Branch cycle (00 0.7, 04 R65). -/
inductive Kind
  | read
  | write
  deriving DecidableEq, Repr

/-- The eight fault codes of a Trunk answer (08 R137). -/
inductive FaultCode
  | form
  | span
  | noRoute
  | denied
  | fenced
  | device
  | timeout
  | conflict
  deriving DecidableEq, Repr

/-- One word of a WRITE request: its byte mask and its data (08 R136). -/
structure LaneWord where
  mask : Lanes
  data : Word
  deriving DecidableEq, Repr

/-- What a request carries besides requester and address (08 R136): for a READ one byte mask per word, for a WRITE one byte
mask and one data word per word. The word count is the length, so masks and data always match it. -/
inductive Access
  | read (masks : List Lanes)
  | write (words : List LaneWord)
  deriving DecidableEq, Repr

/-- A Trunk request as presented (08 R136). -/
structure TrunkRequest where
  requester : Requester
  address : Word
  access : Access
  deriving DecidableEq, Repr

/-- A Trunk target's answer to one of the bridge's own writes (00 0.6, 07 R125). -/
inductive WriteAnswer
  | done
  | wait
  | fault (code : FaultCode)
  deriving DecidableEq, Repr

/-- The six fields of the notice configuration (07 R122). -/
inductive ConfigField
  | ringBase
  | ringOrder
  | signalAddress
  | signalValue
  | signalEnable
  | ownRequester
  deriving DecidableEq, Repr

/-- The two hard resets (09 R158). -/
inductive HardResetCause
  | powerOn
  | resetPin
  deriving DecidableEq, Repr

/-- The commands and events of the bridge. `r` is the requester whose aperture write carries a command or a value. -/
inductive Instr
  /-- TRUNK_REQUEST, 08 R138. -/
  | trunkRequest (q : TrunkRequest)
  /-- TAKE_HEAD, 04 R69. -/
  | takeHead
  /-- BRANCH_ACK, 04 R76; the ACK carries 16 bits of read data. -/
  | branchAck (data : HalfWord)
  /-- BRANCH_ERR, 04 R77. -/
  | branchErr
  /-- HANDSHAKE_LIMIT_EXPIRY, 05 R90. -/
  | handshakeLimitExpiry
  /-- HOLD_EXPIRY, 02 R37, of the entry in one slot. -/
  | holdExpiry (slot : Slot)
  /-- WARM_UP_EXPIRY, 10 R163. -/
  | warmUpExpiry
  /-- IDLE_TIMER_EXPIRY, 10 R164. -/
  | idleTimerExpiry
  /-- RECORD_WRITE, 07 R124. -/
  | recordWrite
  /-- RECORD_WRITE_DONE, 07 R125. -/
  | recordWriteDone
  /-- RECORD_WRITE_WAIT, 07 R125. -/
  | recordWriteWait
  /-- RECORD_WRITE_FAULT, 07 R125, "whatever its code". -/
  | recordWriteFault (code : FaultCode)
  /-- SIGNAL_WRITE_DONE, 07 R128. -/
  | signalWriteDone
  /-- SIGNAL_WRITE_WAIT, 07 R128. -/
  | signalWriteWait
  /-- SIGNAL_WRITE_FAULT, 07 R128. -/
  | signalWriteFault (code : FaultCode)
  /-- ABANDONED_WRITE_ANSWER, 07 R131. -/
  | abandonedWriteAnswer (answer : WriteAnswer)
  /-- COMMIT, 01 R10. -/
  | commit (r : Requester)
  /-- REVERT, 01 R18. -/
  | revert (r : Requester)
  /-- UNFENCE, 05 R102, with the 8-bit argument. -/
  | unfence (r : Requester) (argument : BitVec 8)
  /-- FLUSH, 02 R40. -/
  | flush (r : Requester)
  /-- RECLAIM_POP, 06 R114. -/
  | reclaimPop (r : Requester)
  /-- RECLAIM_CLEAR, 06 R115. -/
  | reclaimClear (r : Requester)
  /-- NOTICE_START, 07 R122, R127. -/
  | noticeStart (r : Requester)
  /-- NOTICE_STOP, 07 R131. -/
  | noticeStop (r : Requester)
  /-- PARK, 10 R162. -/
  | park (r : Requester)
  /-- WAKE, 10 R163. -/
  | wake (r : Requester)
  /-- BRANCH_ABORT, 05 R100. -/
  | branchAbort (r : Requester)
  /-- TIME_SET, 09 R156. -/
  | timeSet (r : Requester)
  /-- BRIDGE_RESET, 09 R159. -/
  | bridgeReset (r : Requester)
  /-- UNKNOWN_COMMAND, 09 R150: a write to COMMAND whose code names no command. -/
  | unknownCommand (r : Requester) (code : BitVec 8)
  /-- REQUESTER_QUOTA_WRITE, 02 R33, 09 R154. -/
  | requesterQuotaWrite (r : Requester) (value : Word)
  /-- HOLD_LIMIT_WRITE, 02 R36, 09 R154. -/
  | holdLimitWrite (r : Requester) (value : Word)
  /-- MANAGEMENT_WRITE_MASK_WRITE, 09 R155. -/
  | managementWriteMaskWrite (r : Requester) (value : Word)
  /-- WARM_UP_WRITE, 09 R154. -/
  | warmUpWrite (r : Requester) (value : Word)
  /-- AUTO_PARK_INTERVAL_WRITE, 10 R164, 09 R154. -/
  | autoParkIntervalWrite (r : Requester) (value : Word)
  /-- NOTICE_CONFIGURATION_WRITE, 07 R122. -/
  | noticeConfigurationWrite (r : Requester) (field : ConfigField) (value : Word)
  /-- CONSUMER_COUNTER_WRITE, 07 R130. -/
  | consumerCounterWrite (r : Requester) (value : Word)
  /-- APERTURE_WRITE, 11 R167: a single-word, full-mask write at a byte offset from the aperture base. -/
  | apertureWrite (r : Requester) (offset : BitVec 12) (value : Word)
  /-- HARD_RESET, 09 R160. -/
  | hardReset (cause : HardResetCause)
  /-- HARD_RESET_RELEASE, 09 R148, with the strap pins as they stand at the release. -/
  | hardResetRelease (strap : BitVec 4)
  /-- APERTURE_ACCESS_REFUSED, 08 R140. -/
  | apertureAccessRefused (q : TrunkRequest)
  deriving DecidableEq, Repr

end Sys2Proof
end

