-- ==== Sys2Proof/Decode.lean ====
section
/-! DEFINITION. What the spec's encodings spell: the command codes of the COMMAND word (11 11.7), the aperture words by offset
(11 11.2), and the host's `decodeTableWord`. No row of spec/opcode_table.json gives bits, so that function answers none. -/

namespace Sys2Proof

/-- The thirteen commands of the COMMAND word (09 R152, 11 11.7). -/
inductive Command
  | commit
  | revert
  | unfence
  | flush
  | reclaimPop
  | reclaimClear
  | noticeStart
  | noticeStop
  | park
  | wake
  | branchAbort
  | timeSet
  | bridgeReset
  deriving DecidableEq, Repr

/-- 11 11.7: the command codes. -/
def Command.code : Command → BitVec 8
  | .commit => 0x01
  | .revert => 0x02
  | .unfence => 0x03
  | .flush => 0x04
  | .reclaimPop => 0x05
  | .reclaimClear => 0x06
  | .noticeStart => 0x07
  | .noticeStop => 0x08
  | .park => 0x09
  | .wake => 0x0A
  | .branchAbort => 0x0B
  | .timeSet => 0x0C
  | .bridgeReset => 0x0D

/-- 09 R150, 11 R167: the command a code names, none for a code not in the table of 11.7. -/
def Command.ofCode (code : BitVec 8) : Option Command :=
  [Command.commit, .revert, .unfence, .flush, .reclaimPop, .reclaimClear, .noticeStart, .noticeStop, .park, .wake,
    .branchAbort, .timeSet, .bridgeReset].find? fun c => c.code == code

/-- The five settings of the settings region (09 R154). -/
inductive Setting
  | requesterQuota
  | holdLimit
  | writeMask
  | warmUp
  | autoPark
  deriving DecidableEq, Repr

/-- The aperture's words (11 11.2). -/
inductive ApertureWord
  | identity
  | resetCause
  | status
  | timeBase
  | setting (which : Setting)
  | command
  | check
  | stage
  | resultFirst
  | resultSecond
  | config (field : ConfigField)
  | producer
  | consumer
  | engineStatus
  | nextSequence
  | shadow (w : WindowNo) (k : Fin 8)
  | active (w : WindowNo) (k : Fin 8)
  | pendingSlot (i : Slot) (k : Fin 16)
  | reclaimHead (k : Nat)
  | branchState
  | activeItem
  | outstandingCycle
  | postQueue
  | postHead
  | undefined
  deriving DecidableEq, Repr

/-- A number's low digits as a Fin: `k modulo n`. -/
def lowFin (n k : Nat) [NeZero n] : Fin n := Fin.ofNat n k

/-- 11 11.2: the aperture map, over the byte offset of a word-aligned access. -/
def ApertureWord.ofOffset (offset : Nat) : ApertureWord :=
  if 0x400 ≤ offset ∧ offset < 0x600 then
    .shadow (lowFin 16 ((offset - 0x400) / 32)) (lowFin 8 (offset / 4))
  else if 0x600 ≤ offset ∧ offset < 0x800 then
    .active (lowFin 16 ((offset - 0x600) / 32)) (lowFin 8 (offset / 4))
  else if 0x800 ≤ offset ∧ offset < 0xA00 then
    .pendingSlot (lowFin 8 ((offset - 0x800) / 64)) (lowFin 16 (offset / 4))
  else if 0xA00 ≤ offset ∧ offset < 0xA38 then
    .reclaimHead ((offset - 0xA00) / 4)
  else match offset with
    | 0x000 => .identity
    | 0x004 => .resetCause
    | 0x008 => .status
    | 0x00C => .timeBase
    | 0x100 => .setting .requesterQuota
    | 0x104 => .setting .holdLimit
    | 0x108 => .setting .writeMask
    | 0x10C => .setting .warmUp
    | 0x110 => .setting .autoPark
    | 0x200 => .command
    | 0x204 => .check
    | 0x208 => .stage
    | 0x20C => .resultFirst
    | 0x210 => .resultSecond
    | 0x300 => .config .ringBase
    | 0x304 => .config .ringOrder
    | 0x308 => .config .signalAddress
    | 0x30C => .config .signalValue
    | 0x310 => .config .signalEnable
    | 0x314 => .config .ownRequester
    | 0x318 => .producer
    | 0x31C => .consumer
    | 0x320 => .engineStatus
    | 0x324 => .nextSequence
    | 0xB00 => .branchState
    | 0xB04 => .activeItem
    | 0xB08 => .outstandingCycle
    | 0xB0C => .postQueue
    | 0xB10 => .postHead
    | _ => .undefined

/-- Whether writes of a word have a row of their own in the opcode table (COMMAND, the settings, the notice configuration, the
consumer counter); APERTURE_WRITE is for the others. -/
def ApertureWord.hasOwnRow : ApertureWord → Bool
  | .command | .setting _ | .config _ | .consumer => true
  | _ => false

/-- The command a table word spells: no row of spec/opcode_table.json gives bits, so none does. -/
def decodeTableWord (_nbits _w : Nat) : Option Instr := none

end Sys2Proof
end

