-- ==== Sys2Proof/Machine/State.lean ====
section
/-! DEFINITION. The state of the bridge as plain data, grouped by the block that owns it (00 0.3), the reasons a step can stop,
and the state right after a hard reset and its release. -/

namespace Sys2Proof.Machine

/-- No constructor: nothing in the spec stops the bridge. A failed check is answered FAULT on the Trunk (08 R137) or recorded
REFUSED in the last command result (09 R151), and the bridge goes on. -/
inductive Fault
  deriving DecidableEq, Repr

/-- Reasons the model refuses a command. -/
inductive Refusal
  /-- Raised by an arm of `exec` whose command has no meaning yet. Safe. No arm raises it. -/
  | notModelled (mnemonic : String)
  deriving DecidableEq, Repr

/-! ### The window table unit -/

/-- 01 R3: how Trunk words map onto Branch half-words. -/
inductive LaneMode
  | narrow
  | paired
  deriving DecidableEq, Repr

/-- 01 R5: whether a read of the device has side effects. -/
inductive ReadClass
  | plain
  | sensitive
  deriving DecidableEq, Repr

/-- 01 R7: what happens when the limit expires on the last allowed attempt. -/
inductive FinalAction
  | skip
  | fence
  deriving DecidableEq, Repr

/-- 11 11.3: a window record as its seven words, stored as written (01 R8). -/
structure WindowRecord where
  /-- word 0: valid and size order -/
  control : Word
  /-- word 1: trunk base -/
  trunkBase : Word
  /-- word 2: branch base and branch select -/
  route : Word
  /-- word 3: lane mode, read class, write mode -/
  classMode : Word
  /-- word 4: permission mask -/
  permission : Word
  /-- word 5: handshake limit, reissue count, final action -/
  policy : Word
  /-- word 6: fill pattern -/
  fill : Word
  deriving DecidableEq, Repr

/-- The state of the window table unit (00 0.3). -/
structure WindowUnit where
  /-- 01 R8 -/
  shadow : Vector WindowRecord 16
  /-- 01 R8 -/
  active : Vector WindowRecord 16
  /-- 01 R9 -/
  epoch : BitVec 8
  /-- 01 R20: bit w is window w's fence flag -/
  fences : BitVec 16
  deriving DecidableEq, Repr

/-- 01 R19: the route snapshot of an item. -/
structure Route where
  window : WindowNo
  epoch : BitVec 8
  select : BitVec 3
  start : BranchIndex
  laneMode : LaneMode
  readClass : ReadClass
  limit : BitVec 12
  reissueCount : BitVec 3
  finalAction : FinalAction
  fill : Word
  deriving DecidableEq, Repr

/-! ### The delayed transaction unit -/

/-- 02 R24: a result status. -/
inductive Status
  | ok
  | filled
  | fault (code : FaultCode)
  deriving DecidableEq, Repr

/-- 02 R24: the result of a READY entry; no data words for a WRITE or a FAULT. -/
structure Result where
  status : Status
  data : List Word
  deriving DecidableEq, Repr

/-- 02 R24: the state of an occupied slot, with the fields present in that state alone. `hold` is the remaining hold time in
microseconds, none when no hold timer runs (02 R35). -/
inductive Phase
  | queued
  | active
  | ready (result : Result) (hold : Option Nat)
  | cancelled
  deriving DecidableEq, Repr

/-- 02 R24: an entry of the pending table. A FREE slot holds no entry. -/
structure Entry where
  /-- requester, kind, trunk address, word count, byte mask and write data -/
  request : TrunkRequest
  route : Route
  phase : Phase
  deriving DecidableEq, Repr

/-! ### The post queue -/

/-- 03 R48: a posted write. -/
structure PostedWrite where
  requester : Requester
  address : Word
  /-- byte masks and data, one per word -/
  words : List LaneWord
  route : Route
  deriving DecidableEq, Repr

/-! ### The branch engine -/

/-- 04 R66: a reference of the issue order list. A posted write's place is its position among the posted references: the first
of them names the oldest waiting write, and so on (03 R52). -/
inductive Ref
  | entry (slot : Slot)
  | posted
  deriving DecidableEq, Repr

/-- 04 R65: a Branch cycle, with the word and half of the item it carries (04 R72). -/
structure Cycle where
  kind : Kind
  select : BitVec 3
  index : BranchIndex
  lowStrobe : Bool
  highStrobe : Bool
  /-- 04 R73; none for a READ -/
  data : Option HalfWord
  /-- the word of the item that gives the half-word, counted from 0 -/
  word : Nat
  /-- whether the half-word carries lanes 2 and 3 -/
  upper : Bool
  deriving DecidableEq, Repr

/-- 04 R70: the progress of the ACTIVE item. -/
structure Progress where
  /-- the entry's slot, or the post queue head -/
  item : Ref
  cycles : List Cycle
  cyclesDone : Nat
  reissuesUsed : Nat
  /-- the read assembly -/
  assembly : List Word
  /-- 05 R88: the handshake timer's remaining microseconds, none under HOLD -/
  timer : Option Nat
  deriving DecidableEq, Repr

/-- 10 R161: the branch power state. -/
inductive PowerState
  | running
  | parking
  | parked
  | waking
  deriving DecidableEq, Repr

/-- The state of the branch engine (00 0.3). -/
structure BranchEngine where
  /-- 04 R66, the oldest reference first -/
  issueOrder : List Ref
  /-- 04 R70 -/
  active : Option Progress
  /-- 10 R161 -/
  power : PowerState
  /-- 10 R161 -/
  parkAfterWake : Bool
  /-- 10 R161: remaining microseconds, none when stopped -/
  warmUpTimer : Option Nat
  /-- 10 R161, R164: remaining microseconds, none when stopped -/
  idleTimer : Option Nat
  deriving DecidableEq, Repr

/-! ### The reclaim log -/

/-- 06 R106: a reclaim record. -/
structure ReclaimRecord where
  sequence : BitVec 16
  requester : Requester
  window : WindowNo
  epoch : BitVec 8
  address : Word
  /-- byte mask, one per word; their number is the word count -/
  masks : List Lanes
  timeTag : Word
  data : List Word
  deriving DecidableEq, Repr

/-- The state of the reclaim log (00 0.3), the oldest record first. -/
structure ReclaimLog where
  records : List ReclaimRecord
  /-- 06 R107 -/
  nextSequence : BitVec 16
  deriving DecidableEq, Repr

/-! ### The notice engine -/

/-- 07 R119: the fourteen notice kinds. -/
inductive NoticeKind
  | accessDenied
  | cycleError
  | cycleSkipped
  | windowFenced
  | reissueRecovered
  | resultDiscarded
  | readReclaimed
  | reclaimOverflow
  | lateDelivery
  | tableCommitted
  | tableRejected
  | pendingFlushed
  | bridgeReset
  | ringHalf
  deriving DecidableEq, Repr

/-- 07 R118: a notice; `none` is the value none of a window or requester field. -/
structure Notice where
  kind : NoticeKind
  window : Option WindowNo
  requester : Option Requester
  epoch : BitVec 8
  sequence : BitVec 16
  timeTag : Word
  detail : Word
  aux : BitVec 16
  deriving DecidableEq, Repr

/-- 07 7.4: the states of the notice engine. -/
inductive EngineState
  | off
  | running
  | stalled
  deriving DecidableEq, Repr

/-- 07 R126: the stall reasons. -/
inductive StallReason
  | none
  | recordFault
  | recordWaitLimit
  | signalFault
  | signalWaitLimit
  deriving DecidableEq, Repr

/-- A Trunk WRITE the notice engine presents as an initiator, every mask full (07 R124, R128). -/
structure EngineWrite where
  requester : Requester
  address : Word
  words : List Word
  deriving DecidableEq, Repr

/-- 07 R124, R128, R131: what the write in flight is. An abandoned write remembers whether it was a record write and whether a
NOTICE_START from OFF has been taken since it was abandoned. -/
inductive FlightKind
  | record
  | signal
  | abandoned (wasRecord : Bool) (restarted : Bool)
  deriving DecidableEq, Repr

/-- The write in flight. -/
structure Flight where
  kind : FlightKind
  presented : EngineWrite
  deriving DecidableEq, Repr

/-- The state of the notice engine (00 0.3). -/
structure NoticeEngine where
  state : EngineState
  /-- 07 R126 -/
  stallReason : StallReason
  /-- 07 R122 -/
  ringBase : Word
  /-- 07 R122; 0 after hard reset, else 3 to 10 -/
  ringOrder : BitVec 4
  /-- 07 R122 -/
  signalAddress : Word
  /-- 07 R122 -/
  signalValue : Word
  /-- 07 R122 -/
  signalEnable : Bool
  /-- 07 R122 -/
  ownRequester : Requester
  /-- 07 R124 -/
  producer : BitVec 16
  /-- 07 R130 -/
  consumer : BitVec 16
  /-- 07 R123, the oldest notice first -/
  backlog : List Notice
  /-- 07 R120 -/
  nextSequence : BitVec 16
  /-- 07 R129 -/
  signalArmed : Bool
  /-- 07 R129 -/
  halfArmed : Bool
  /-- 07 R125: the WAIT repeat count -/
  waitCount : Nat
  /-- 07 R124 -/
  flight : Option Flight
  deriving DecidableEq, Repr

/-! ### The management unit and the Trunk port -/

/-- 09 R151: the origin of the last command result. -/
inductive Origin
  | none
  | command (c : Command)
  | settingWrite
  | noticeWrite
  | unknownCommand
  deriving DecidableEq, Repr

/-- 09 R151: the outcome of the last command result. -/
inductive ResultOutcome
  | none
  | done
  | refused
  deriving DecidableEq, Repr

/-- 11 11.7: the refusal reasons. -/
inductive Reason
  | none
  | unknown
  | field
  | state
  | check
  | align
  | branchRange
  | overlap
  | aperture
  | ring
  | sensitiveReissue
  | notFenced
  | empty
  | idle
  | ringClash
  | badIndex
  deriving DecidableEq, Repr

/-- 09 R151: the last command result. -/
structure CommandResult where
  origin : Origin
  requester : Requester
  outcome : ResultOutcome
  reason : Reason
  value : BitVec 16
  serial : BitVec 8
  deriving DecidableEq, Repr

/-- 09 R158: the reset taken last. -/
inductive ResetCause
  | powerOn
  | resetPin
  | command
  deriving DecidableEq, Repr

/-- The state of the management unit (09, introduction). -/
structure Management where
  /-- 09 R154 -/
  quota : BitVec 3
  /-- 09 R154, units of 16 microseconds -/
  holdLimit : BitVec 16
  /-- 09 R155 -/
  writeMask : BitVec 16
  /-- 09 R154, units of 16 microseconds -/
  warmUp : BitVec 6
  /-- 09 R154, milliseconds -/
  autoPark : BitVec 8
  /-- 09 R157 -/
  check : Word
  /-- 09 R157 -/
  stage : Word
  /-- 09 R151 -/
  result : CommandResult
  /-- 09 R156 -/
  timeBase : Word
  /-- 09 R158 -/
  resetCause : ResetCause
  /-- 09 R148 -/
  strap : BitVec 4
  deriving DecidableEq, Repr

/-- 08 R137: an answer of the Trunk port; DONE carries the data words of a READ. -/
inductive Answer
  | done (data : List Word)
  | wait
  | fault (code : FaultCode)
  deriving DecidableEq, Repr

/-- The Trunk port's side: whether the reset pin holds the bridge (08 R147), and the model's own record of the last answer
given on the Trunk (the port's output; no rule of the bridge reads it). -/
structure Port where
  held : Bool
  answer : Option Answer
  deriving DecidableEq, Repr

/-- The state of the bridge, and the queue of commands that wait to be taken. -/
structure State where
  window : WindowUnit
  /-- 02 R24: the pending table -/
  slots : Vector (Option Entry) 8
  /-- 03 R48: the post queue, the oldest write first -/
  posts : List PostedWrite
  branch : BranchEngine
  reclaim : ReclaimLog
  notice : NoticeEngine
  mgmt : Management
  port : Port
  /-- the commands waiting, first in, first out -/
  pending : List Instr
  deriving DecidableEq, Repr

/-! ### Values after hard reset -/

/-- 01 R22: a record with every field zero. -/
def WindowRecord.zero : WindowRecord := ⟨0, 0, 0, 0, 0, 0, 0⟩

/-- 01 R22. -/
def WindowUnit.reset : WindowUnit :=
  { shadow := Vector.replicate 16 WindowRecord.zero, active := Vector.replicate 16 WindowRecord.zero, epoch := 0, fences := 0 }

/-- 04 R87, 10 R161. -/
def BranchEngine.reset : BranchEngine :=
  { issueOrder := [], active := none, power := .running, parkAfterWake := false, warmUpTimer := none, idleTimer := none }

/-- 06 R117. -/
def ReclaimLog.reset : ReclaimLog := { records := [], nextSequence := 0 }

/-- 07 R135. -/
def NoticeEngine.reset : NoticeEngine :=
  { state := .off, stallReason := .none, ringBase := 0, ringOrder := 0, signalAddress := 0, signalValue := 0,
    signalEnable := false, ownRequester := 0, producer := 0, consumer := 0, backlog := [], nextSequence := 0,
    signalArmed := false, halfArmed := false, waitCount := 0, flight := none }

/-- 09 R151: the result after hard reset. -/
def CommandResult.reset : CommandResult :=
  { origin := .none, requester := 0, outcome := .none, reason := .none, value := 0, serial := 0 }

/-- 09 R160, for a hard reset of the given cause and the given strap value. -/
def Management.reset (cause : ResetCause) (strap : BitVec 4) : Management :=
  { quota := Config.resetQuota, holdLimit := Config.resetHoldLimit, writeMask := Config.resetWriteMask,
    warmUp := Config.resetWarmUp, autoPark := 0, check := 0, stage := 0, result := .reset, timeBase := 0,
    resetCause := cause, strap := strap }

/-- The bridge right after a power-on hard reset and its release with strap value 0 (DESIGN CHOICE, log 4: the spec samples the
strap and gives the cause by the reset taken), with no command waiting and no answer given yet (log 5). -/
def State.reset : State :=
  { window := .reset, slots := Vector.replicate 8 none, posts := [], branch := .reset, reclaim := .reset, notice := .reset,
    mgmt := .reset .powerOn 0, port := { held := false, answer := none }, pending := [] }

end Sys2Proof.Machine
end

