-- ==== Sys2Proof/WellFormed.lean ====
section
/-! DEFINITION. Which operands spell a command of their own row. The types already bound requesters, windows, slots and straps.
What is left is that a row's operands do not spell another row: a code that names a command, an aperture word with a row of its
own, an access no aperture would refuse. The machine gives every term a meaning, well-formed or not. -/

namespace Sys2Proof

/-- 08 R140: an aperture access of the right shape has word count 1 and a full mask. -/
def Access.singleFull : Access → Bool
  | .read [m] => m == 0xF
  | .write [w] => w.mask == 0xF
  | _ => false

/-- Whether an access is a WRITE. -/
def Access.isWrite : Access → Bool
  | .read _ => false
  | .write _ => true

/-- The well-formedness of a command's operands. -/
def Instr.wellFormed : Instr → Bool
  | .unknownCommand _ code => (Command.ofCode code).isNone
  | .apertureWrite _ offset _ =>
    offset.toNat % 4 == 0 && !(ApertureWord.ofOffset offset.toNat).hasOwnRow
  | .apertureAccessRefused q => !q.access.singleFull || q.access.isWrite || q.address.toNat % 4 != 0
  | _ => true

end Sys2Proof
end

