-- ==== Sys2Proof/Machine/Operands.lean ====
section
/-! DEFINITION. The operands of a Trunk request (08 R136): counts, masks, keys, the FORM check, lanes, and the comparison of a
write repeat's data. -/

namespace Sys2Proof

/-- The kind of an access. -/
def Access.kind : Access → Kind
  | .read _ => .read
  | .write _ => .write

/-- The byte masks, one per word. -/
def Access.masks : Access → List Lanes
  | .read masks => masks
  | .write words => words.map (·.mask)

/-- The data words: those of a WRITE, none for a READ. -/
def Access.data : Access → List Word
  | .read _ => []
  | .write words => words.map (·.data)

/-- Mask and data of every word; a READ's words carry zero. -/
def Access.laneWords : Access → List LaneWord
  | .read masks => masks.map fun m => { mask := m, data := 0 }
  | .write words => words

/-- The word count. -/
def Access.count (a : Access) : Nat := a.masks.length

/-- A full byte mask. -/
def fullMask : Lanes := 0xF

/-- 02 R25: a key. The word count is the number of masks. -/
structure Key where
  requester : Requester
  kind : Kind
  address : Word
  masks : List Lanes
  deriving DecidableEq, Repr

/-- 02 R25: the key of a request. -/
def TrunkRequest.key (q : TrunkRequest) : Key :=
  { requester := q.requester, kind := q.access.kind, address := q.address, masks := q.access.masks }

/-- 08 R139: the request is malformed. -/
def TrunkRequest.malformed (q : TrunkRequest) : Bool :=
  let n := q.access.count
  let a := q.address.toNat
  n == 0 || decide (8 < n) || a % 4 != 0 || decide (8 < a % 32 / 4 + n) || (decide (1 < n) && q.access.masks.any (· != fullMask))

namespace Machine

/-- 01 R3: the lanes a mode carries to the Branch. -/
def LaneMode.carried : LaneMode → Lanes
  | .narrow => 0b0011
  | .paired => 0b1111

/-- 01 R4: the effective lanes of one word. -/
def effectiveLanes (mode : LaneMode) (mask : Lanes) : Lanes := mask &&& mode.carried

/-- 01 R4: no half-word of the request has an effective lane. -/
def noEffectiveLane (mode : LaneMode) (masks : List Lanes) : Bool :=
  masks.all fun m => effectiveLanes mode m == 0

/-- A byte of ones where the bit is set. -/
def byteOf (bit : Bool) : BitVec 8 := if bit then 0xFF else 0

/-- The bytes of a word that a byte mask selects (00 0.7: lane 0 is the least significant byte). -/
def laneBytes (mask : Lanes) : Word :=
  byteOf (mask.getLsbD 3) ++ byteOf (mask.getLsbD 2) ++ byteOf (mask.getLsbD 1) ++ byteOf (mask.getLsbD 0)

/-- 02 R28: some byte whose mask bit is set differs between the stored write data and the repeat's. -/
def dataDiffers (stored repeated : List LaneWord) : Bool :=
  (stored.zip repeated).any fun p => (p.1.data ^^^ p.2.data) &&& laneBytes p.1.mask != 0

end Machine

end Sys2Proof
end

