-- ==== Sys2Proof/Machine/Flags.lean ====
section
/-! DEFINITION. What the blocks read off the state: liveness and occupancy of the pending table, idleness of the engine, the
ring's occupancy, and which timers run. None of it changes the state. -/

namespace Sys2Proof.Machine

/-! ### The pending table -/

/-- 02 R25: an entry is live while it is QUEUED, ACTIVE or READY. -/
def Entry.live (e : Entry) : Bool :=
  match e.phase with
  | .cancelled => false
  | _ => true

/-- The entry is QUEUED. -/
def Entry.queued (e : Entry) : Bool := e.phase == .queued

/-- 02 R38: a READ whose snapshot is SENSITIVE and whose status is OK holds data the device has given up. -/
def Entry.reclaimable (e : Entry) (r : Result) : Bool :=
  e.request.access.kind == .read && e.route.readClass == .sensitive && r.status == .ok

/-- 02 R26: the number of occupied slots. -/
def State.occupied (s : State) : Nat := (List.finRange 8).countP fun i => (s.slots.get i).isSome

/-- 02 R26: a requester's live count. -/
def State.liveCount (s : State) (r : Requester) : Nat :=
  (List.finRange 8).countP fun i => (s.slots.get i).any fun e => e.live && e.request.requester == r

/-- 02 R27, R28: the slot of the live entry with an equal key (02 R25: there is at most one). -/
def State.matchLive (s : State) (q : TrunkRequest) : Option Slot :=
  (List.finRange 8).find? fun i => (s.slots.get i).any fun e => e.live && e.request.key == q.key

/-- 02 R30: the lowest-numbered FREE slot. -/
def State.freeSlot (s : State) : Option Slot :=
  (List.finRange 8).find? fun i => (s.slots.get i).isNone

/-- 02 R35: the remaining hold time of the READY entry in a slot, none when no hold timer runs. -/
def State.holdRemaining (s : State) (i : Slot) : Option Nat :=
  match s.slots.get i with
  | some { phase := .ready _ hold, .. } => hold
  | _ => none

/-! ### The branch engine -/

/-- 04 R84: no item is ACTIVE and the issue order list is empty. -/
def State.idle (s : State) : Bool := s.branch.active.isNone && s.branch.issueOrder.isEmpty

/-- 10 R161: items are taken in RUNNING and PARKING. -/
def PowerState.runs : PowerState → Bool
  | .running | .parking => true
  | .parked | .waking => false

/-- 10 R161: the Branch clock runs in every state but PARKED. -/
def State.branchClockRuns (s : State) : Bool := s.branch.power != .parked

/-- 04 R70: the outstanding cycle of the ACTIVE item. -/
def Progress.outstanding (p : Progress) : Option Cycle := p.cycles[p.cyclesDone]?

/-- 04 R65: the outstanding cycle, none when no item is ACTIVE. -/
def State.outstanding (s : State) : Option Cycle := s.branch.active.bind (·.outstanding)

/-- 03 R48: the head of the post queue is draining. -/
def State.draining (s : State) : Bool := s.branch.active.any fun p => p.item == .posted

/-! ### The notice engine -/

/-- 07 R124: occupancy, producer counter minus consumer counter modulo 65536. -/
def NoticeEngine.occupancy (n : NoticeEngine) : Nat := (n.producer - n.consumer).toNat

/-- 07 R122: the ring holds 2^order records. -/
def NoticeEngine.ringSize (n : NoticeEngine) : Nat := 2 ^ n.ringOrder.toNat

/-- 07 R124: the four conditions of a record write. -/
def NoticeEngine.recordDue (n : NoticeEngine) : Bool :=
  n.state == .running && n.flight.isNone && !n.backlog.isEmpty && decide (n.occupancy < n.ringSize)

/-! ### The management unit and the aperture -/

/-- 01 R20: the fence flag of a window. -/
def State.fenced (s : State) (w : WindowNo) : Bool := s.window.fences.getLsbD w.val

/-- 08 R140: the requester's bit of the management write mask. -/
def State.mayWriteAperture (s : State) (r : Requester) : Bool := s.mgmt.writeMask.getLsbD r.val

/-- 09 R148: the aperture's first byte address. -/
def State.apertureBase (s : State) : Nat := s.mgmt.strap.toNat * Config.apertureStride + Config.apertureOffset

/-- 08 R138 step 2: the address lies in the management aperture. -/
def State.inAperture (s : State) (a : Word) : Bool :=
  decide (s.apertureBase ≤ a.toNat) && decide (a.toNat < s.apertureBase + Config.apertureSize)

/-- The offset of an aperture address from the aperture base. -/
def State.apertureOffset (s : State) (a : Word) : Nat := a.toNat - s.apertureBase

end Sys2Proof.Machine
end

