-- ==== Sys2Proof/Machine/Formats.lean ====
section
/-! DEFINITION. Bit placements and encodings (chapter 11): the fields of a window record, the encodings of 11.7, and the image of a
notice record (R168). -/

namespace Sys2Proof.Machine

/-- A value in a field of `width` bits whose lowest bit is `pos`, every other bit zero. -/
def bits (pos width value : Nat) : Word := (BitVec.ofNat width value).setWidth 32 <<< pos

/-- A one-bit field. -/
def flagBit (pos : Nat) (b : Bool) : Word := bits pos 1 b.toNat

/-! ### Encodings (11 11.7) -/

def Kind.code : Kind → Nat
  | .read => 0
  | .write => 1

def FaultCode.code : FaultCode → Nat
  | .form => 1
  | .span => 2
  | .noRoute => 3
  | .denied => 4
  | .fenced => 5
  | .device => 6
  | .timeout => 7
  | .conflict => 8

def LaneMode.code : LaneMode → Nat
  | .narrow => 0
  | .paired => 1

def ReadClass.code : ReadClass → Nat
  | .plain => 0
  | .sensitive => 1

def FinalAction.code : FinalAction → Nat
  | .skip => 0
  | .fence => 1

/-- Result status: 1 OK, 2 FILLED, 3 FAULT. -/
def Status.code : Status → Nat
  | .ok => 1
  | .filled => 2
  | .fault _ => 3

/-- The fault code of a status, 0 when it is no FAULT. -/
def Status.faultCode : Status → Nat
  | .fault c => FaultCode.code c
  | _ => 0

/-- Pending state of an occupied slot; 0 is FREE. -/
def Phase.code : Phase → Nat
  | .queued => 1
  | .active => 2
  | .ready .. => 3
  | .cancelled => 4

def PowerState.code : PowerState → Nat
  | .running => 0
  | .parking => 1
  | .parked => 2
  | .waking => 3

def EngineState.code : EngineState → Nat
  | .off => 0
  | .running => 1
  | .stalled => 2

def StallReason.code : StallReason → Nat
  | .none => 0
  | .recordFault => 1
  | .recordWaitLimit => 2
  | .signalFault => 3
  | .signalWaitLimit => 4

def FlightKind.code : FlightKind → Nat
  | .record => 1
  | .signal => 2
  | .abandoned .. => 3

def ResetCause.code : ResetCause → Nat
  | .powerOn => 1
  | .resetPin => 2
  | .command => 3

def ResultOutcome.code : ResultOutcome → Nat
  | .none => 0
  | .done => 1
  | .refused => 2

def Reason.code : Reason → Nat
  | .none => 0
  | .unknown => 1
  | .field => 2
  | .state => 3
  | .check => 4
  | .align => 5
  | .branchRange => 6
  | .overlap => 7
  | .aperture => 8
  | .ring => 9
  | .sensitiveReissue => 10
  | .notFenced => 11
  | .empty => 12
  | .idle => 13
  | .ringClash => 14
  | .badIndex => 15

def Origin.code : Origin → Nat
  | .none => 0x00
  | .command c => c.code.toNat
  | .settingWrite => 0x10
  | .noticeWrite => 0x11
  | .unknownCommand => 0x12

def NoticeKind.code : NoticeKind → Nat
  | .accessDenied => 0x01
  | .cycleError => 0x02
  | .cycleSkipped => 0x03
  | .windowFenced => 0x04
  | .reissueRecovered => 0x05
  | .resultDiscarded => 0x06
  | .readReclaimed => 0x07
  | .reclaimOverflow => 0x08
  | .lateDelivery => 0x09
  | .tableCommitted => 0x0A
  | .tableRejected => 0x0B
  | .pendingFlushed => 0x0C
  | .bridgeReset => 0x0D
  | .ringHalf => 0x0E

/-- A window or requester number, 0xFF for none. -/
def orNone (n : Option (Fin 16)) : Nat := (n.map (·.val)).getD Config.noneCode

/-! ### The fields of a window record (11 11.3) -/

def WindowRecord.valid (r : WindowRecord) : Bool := r.control.getLsbD 0

def WindowRecord.sizeOrder (r : WindowRecord) : Nat := (r.control.extractLsb' 8 5).toNat

def WindowRecord.branchBase (r : WindowRecord) : BranchIndex := r.route.extractLsb' 0 24

def WindowRecord.branchSelect (r : WindowRecord) : BitVec 3 := r.route.extractLsb' 24 3

/-- The two-bit encodings of lane mode, read class, write mode and final action as stored. -/
def WindowRecord.laneModeBits (r : WindowRecord) : BitVec 2 := r.classMode.extractLsb' 0 2

def WindowRecord.readClassBits (r : WindowRecord) : BitVec 2 := r.classMode.extractLsb' 4 2

def WindowRecord.writeModeBits (r : WindowRecord) : BitVec 2 := r.classMode.extractLsb' 8 2

def WindowRecord.finalActionBits (r : WindowRecord) : BitVec 2 := r.policy.extractLsb' 24 2

/-- Encoding 1 is PAIRED. A valid active record holds 0 or 1 (01 R13); DESIGN CHOICE, log 9, on other encodings. -/
def WindowRecord.laneMode (r : WindowRecord) : LaneMode := if r.laneModeBits = 1 then .paired else .narrow

def WindowRecord.readClass (r : WindowRecord) : ReadClass := if r.readClassBits = 1 then .sensitive else .plain

/-- Encoding 0 is POSTED, 1 NONPOSTED. -/
def WindowRecord.posted (r : WindowRecord) : Bool := r.writeModeBits != 1

def WindowRecord.finalAction (r : WindowRecord) : FinalAction := if r.finalActionBits = 1 then .fence else .skip

/-- 01 R6: the permission bit of a requester. -/
def WindowRecord.permits (r : WindowRecord) (q : Requester) : Bool := r.permission.getLsbD q.val

def WindowRecord.limit (r : WindowRecord) : Nat := (r.policy.extractLsb' 0 16).toNat

def WindowRecord.reissueCount (r : WindowRecord) : Nat := (r.policy.extractLsb' 16 4).toNat

/-- 01 R12: the sum of a record's seven defined words. -/
def WindowRecord.sum (r : WindowRecord) : Word :=
  r.control + r.trunkBase + r.route + r.classMode + r.permission + r.policy + r.fill

/-- 11 11.2: word k of a record, zero for the eighth. -/
def WindowRecord.word (r : WindowRecord) (k : Fin 8) : Word :=
  match k with
  | 0 => r.control
  | 1 => r.trunkBase
  | 2 => r.route
  | 3 => r.classMode
  | 4 => r.permission
  | 5 => r.policy
  | 6 => r.fill
  | 7 => 0

/-- 01 R8: a record with word k as written; a write to the eighth word changes nothing. -/
def WindowRecord.withWord (r : WindowRecord) (k : Fin 8) (v : Word) : WindowRecord :=
  match k with
  | 0 => { r with control := v }
  | 1 => { r with trunkBase := v }
  | 2 => { r with route := v }
  | 3 => { r with classMode := v }
  | 4 => { r with permission := v }
  | 5 => { r with policy := v }
  | 6 => { r with fill := v }
  | 7 => r

/-- 01 R13, 11 11.3: the bits of each word that hold a field; every other bit is an unused bit for the FIELD check. -/
def WindowRecord.unusedClear (r : WindowRecord) : Bool :=
  r.control &&& ~~~0x00001F01#32 == 0 && r.route &&& ~~~0x07FFFFFF#32 == 0 && r.classMode &&& ~~~0x00000333#32 == 0
    && r.permission &&& ~~~0x0000FFFF#32 == 0 && r.policy &&& ~~~0x030FFFFF#32 == 0

/-- 01 R1: the first byte address of a record's region. -/
def WindowRecord.first (r : WindowRecord) : Nat := r.trunkBase.toNat

/-- 01 R1: the last byte address of a record's region. -/
def WindowRecord.last (r : WindowRecord) : Nat := r.trunkBase.toNat + 2 ^ r.sizeOrder - 1

/-! ### Packed images -/

/-- 11 11.4 word 2: the byte mask image, bits 4i+3:4i for word i. -/
def maskImage (masks : List Lanes) : Word :=
  (masks.zipIdx.map fun p => bits (4 * p.2) 4 p.1.toNat).foldl (· ||| ·) 0

/-- 11 R168: the four words of a notice record. -/
def Notice.image (n : Notice) : List Word :=
  [ bits 0 8 (NoticeKind.code n.kind) ||| bits 8 8 (orNone n.window) ||| bits 16 8 (orNone n.requester)
      ||| bits 24 8 n.epoch.toNat,
    bits 0 16 n.sequence.toNat ||| bits 16 16 n.aux.toNat,
    n.timeTag,
    n.detail ]

/-- 11 R168: the low half of a packed word, as an aux field. -/
def auxOf (w : Word) : BitVec 16 := w.setWidth 16

/-- 11 R168: ACCESS_DENIED's aux. -/
def auxAccessDenied (kind : Kind) (count : Nat) : BitVec 16 := auxOf (bits 0 4 count ||| bits 8 1 (Kind.code kind))

/-- 11 R168: CYCLE_SKIPPED's aux. -/
def auxCycleSkipped (cyclesDone reissuesUsed : Nat) (aborted : Bool) : BitVec 16 :=
  auxOf (bits 0 4 cyclesDone ||| bits 4 3 reissuesUsed ||| flagBit 15 aborted)

/-- 11 R168: WINDOW_FENCED's aux. -/
def auxWindowFenced (entriesFaulted writesDropped : Nat) (retired : Bool) : BitVec 16 :=
  auxOf (bits 0 4 entriesFaulted ||| bits 4 5 writesDropped ||| flagBit 15 retired)

/-- 11 R168: RESULT_DISCARDED's aux. -/
def auxResultDiscarded (kind : Kind) (status : Status) : BitVec 16 :=
  auxOf (bits 0 2 (Status.code status) ||| bits 4 4 status.faultCode ||| bits 8 1 (Kind.code kind))

/-- 11 R168: TABLE_REJECTED's aux. -/
def auxTableRejected (reason : Reason) (window : Option WindowNo) : BitVec 16 :=
  auxOf (bits 0 4 (Reason.code reason) ||| bits 8 8 (orNone window))

/-- 11 R168: PENDING_FLUSHED's detail. -/
def detailPendingFlushed (freedQueued reclaimed cancelled discarded : Nat) : Word :=
  bits 0 8 freedQueued ||| bits 8 8 reclaimed ||| bits 16 8 cancelled ||| bits 24 8 discarded

/-- 11 R168: BRIDGE_RESET's detail. -/
def detailBridgeReset (postsDiscarded readsLost : Nat) : Word := bits 0 16 postsDiscarded ||| bits 16 16 readsLost

end Sys2Proof.Machine
end

