-- ==== Sys2Proof/Machine/Ops.lean ====
section
/-! DEFINITION. The shared operations: giving an answer, setting the last command result, generating a notice, placing and freeing
entries, timers and the passing of time, the power transitions of an engine that becomes idle or busy, and the gate of an
aperture write. -/

namespace Sys2Proof.Machine

/-! ### Answers and results -/

/-- 08 R137: the Trunk answer of the request in hand. -/
def State.answer (s : State) (a : Answer) : State := { s with port.answer := some a }

/-- 09 R151: sets the last command result; its serial rises by one, wrapping from 255 to 0. -/
def State.setResult (s : State) (origin : Origin) (r : Requester) (outcome : ResultOutcome) (reason : Reason)
    (value : BitVec 16) : State :=
  { s with
    mgmt.result :=
      { origin := origin, requester := r, outcome := outcome, reason := reason, value := value,
        serial := s.mgmt.result.serial + 1 } }

/-- A DONE result with the given value. -/
def State.resultDone (s : State) (origin : Origin) (r : Requester) (value : BitVec 16) : State :=
  s.setResult origin r .done .none value

/-- A REFUSED result with its reason and value. -/
def State.resultRefused (s : State) (origin : Origin) (r : Requester) (reason : Reason) (value : BitVec 16) : State :=
  s.setResult origin r .refused reason value

/-! ### Notices -/

/-- The fields of a notice that the generating block gives, with the epoch by kind (07 R118). -/
structure Event where
  kind : NoticeKind
  window : Option WindowNo
  requester : Option Requester
  epoch : BitVec 8
  detail : Word
  aux : BitVec 16
  deriving DecidableEq, Repr

/-- 07 R118, R120: the notice as generated, with the next sequence number and the time base of the moment. -/
def State.noticeOf (s : State) (e : Event) : Notice :=
  { kind := e.kind, window := e.window, requester := e.requester, epoch := e.epoch, sequence := s.notice.nextSequence,
    timeTag := s.mgmt.timeBase, detail := e.detail, aux := e.aux }

/-- 07 R123: whether a generated notice joins the backlog. -/
def NoticeEngine.takesNotice (n : NoticeEngine) : Bool :=
  n.state != .off && decide (n.backlog.length < Config.backlogCapacity)

/-- 07 R120, R123: generating a notice takes a sequence number; the notice joins the backlog, or is dropped while the engine
is OFF or the backlog is full. -/
def State.generate (s : State) (e : Event) : State :=
  { s with
    notice.nextSequence := s.notice.nextSequence + 1
    notice.backlog := if s.notice.takesNotice then s.notice.backlog ++ [s.noticeOf e] else s.notice.backlog }

/-! ### Slots -/

/-- Places an entry in a slot. -/
def State.putEntry (s : State) (i : Slot) (e : Entry) : State := { s with slots := s.slots.set i (some e) }

/-- 02 R24: an entry becomes FREE; its fields are removed. -/
def State.freeEntry (s : State) (i : Slot) : State := { s with slots := s.slots.set i none }

/-- Rewrites every slot at once. -/
def mapSlots (slots : Vector (Option Entry) 8) (f : Entry → Option Entry) : Vector (Option Entry) 8 :=
  Vector.ofFn fun i => (slots.get i).bind f

/-- 02 R35: the hold timer an entry starts when it becomes READY, from the hold limit in force. -/
def State.holdStart (s : State) : Option Nat :=
  if s.mgmt.holdLimit = 0 then none else some (Config.coarseUnit * s.mgmt.holdLimit.toNat)

/-- 02 R35: an entry made READY with a result. -/
def State.readyEntry (s : State) (e : Entry) (r : Result) : Entry := { e with phase := .ready r s.holdStart }

/-! ### The reclaim log -/

/-- 06 R108: the log has room for a record. -/
def ReclaimLog.hasRoom (l : ReclaimLog) : Bool := decide (l.records.length < Config.reclaimCapacity)

/-- 06 R106, R108: the record made from a handed-over read. -/
def State.recordOf (s : State) (e : Entry) (data : List Word) : ReclaimRecord :=
  { sequence := s.reclaim.nextSequence, requester := e.request.requester, window := e.route.window, epoch := e.route.epoch,
    address := e.request.address, masks := e.request.access.masks, timeTag := s.mgmt.timeBase, data := data }

/-- 06 R108: hands a SENSITIVE OK read to the log: a record at the tail while the log has room, else the data is lost. -/
def State.handOver (s : State) (e : Entry) (data : List Word) : State :=
  if s.reclaim.hasRoom then
    { s with
      reclaim.records := s.reclaim.records ++ [s.recordOf e data]
      reclaim.nextSequence := s.reclaim.nextSequence + 1 }
  else s

/-- 02 R37: the notice fields every disposal shares. -/
def State.disposalEvent (s : State) (e : Entry) (kind : NoticeKind) (aux : BitVec 16) : Event :=
  { kind := kind, window := some e.route.window, requester := some e.request.requester, epoch := s.window.epoch,
    detail := e.request.address, aux := aux }

/-- 06 R108: RECLAIM_OVERFLOW, whose aux is the entry's word count. -/
def State.overflowEvent (s : State) (e : Entry) : Event :=
  s.disposalEvent e .reclaimOverflow (BitVec.ofNat 16 e.request.access.count)

/-- 02 R37, R38: disposal at hold expiry and at the completion of a CANCELLED entry. A SENSITIVE OK read goes to the reclaim log,
with READ_RECLAIMED or RECLAIM_OVERFLOW; anything else is discarded with RESULT_DISCARDED. -/
def State.dispose (s : State) (e : Entry) (r : Result) : State :=
  if e.reclaimable r then
    if s.reclaim.hasRoom then
      (s.handOver e r.data).generate (s.disposalEvent e .readReclaimed s.reclaim.nextSequence)
    else s.generate (s.overflowEvent e)
  else s.generate (s.disposalEvent e .resultDiscarded (auxResultDiscarded e.request.access.kind r.status))

/-! ### Timers and time -/

/-- 05 R88, R89: the handshake timer of an attempt, none under HOLD. -/
def handshakeStart (limit : BitVec 12) : Option Nat := if limit = 0 then none else some limit.toNat

/-- 10 R161: the warm-up timer from the setting in force. -/
def State.warmUpStart (s : State) : Nat := Config.coarseUnit * s.mgmt.warmUp.toNat

/-- 10 R164: the idle timer from an auto-park interval; an interval of 0 starts none. -/
def idleStart (interval : BitVec 8) : Option Nat :=
  if interval = 0 then none else some (Config.millisecond * interval.toNat)

/-- An entry after `n` microseconds: a running hold timer falls, to no less than 0 (02 R35). -/
def Entry.elapse (n : Nat) (e : Entry) : Entry :=
  match e.phase with
  | .ready r hold => { e with phase := .ready r (hold.map (· - n)) }
  | _ => e

/-- `n` microseconds pass: the time base counts (09 R156) and every running timer falls, to no less than 0. While the reset pin
holds the bridge nothing counts (09 R156: the time base "starts counting at the release of hard reset"). -/
def State.elapse (n : Nat) (s : State) : State :=
  if s.port.held then s
  else
    { s with
      mgmt.timeBase := s.mgmt.timeBase + BitVec.ofNat 32 n
      slots := mapSlots s.slots fun e => some (e.elapse n)
      branch.active := s.branch.active.map fun p => { p with timer := p.timer.map (· - n) }
      branch.warmUpTimer := s.branch.warmUpTimer.map (· - n)
      branch.idleTimer := s.branch.idleTimer.map (· - n) }

/-! ### Power transitions -/

/-- 10 R162, R164: the engine becomes idle. PARKING becomes PARKED; in RUNNING the idle timer starts. -/
def State.becomeIdle (s : State) : State :=
  match s.branch.power with
  | .parking => { s with branch.power := .parked }
  | .running => { s with branch.idleTimer := idleStart s.mgmt.autoPark }
  | .parked | .waking => s

/-- 04 R84: the engine becomes idle when an event leaves it with no ACTIVE item and an empty list. `before` is the state the
event was taken in; an engine already idle does not become idle. -/
def State.settle (before after : State) : State :=
  if after.idle && !before.idle then after.becomeIdle else after

/-- 10 R163: PARKED becomes WAKING; the Branch clock and the warm-up timer start, and the mark is clear. -/
def State.beginWake (s : State) : State :=
  { s with branch.power := .waking, branch.warmUpTimer := some s.warmUpStart, branch.parkAfterWake := false }

/-- 04 R67, 10 R163, R164: an admission appends its reference at the tail; the engine is busy, so the idle timer stops; a PARKED
Branch begins to wake. -/
def State.enqueue (s : State) (r : Ref) : State :=
  let t := { s with branch.issueOrder := s.branch.issueOrder ++ [r], branch.idleTimer := none }
  if s.branch.power = .parked then t.beginWake else t

/-! ### The gate of an aperture write -/

/-- 08 R140, R147: an aperture write of one full word from requester r. While the reset pin holds the bridge it is answered
WAIT; from a requester whose bit is clear in the write mask FAULT(DENIED); else DONE, with its effect in the same step. -/
def State.apertureGate (s : State) (r : Requester) (effect : State → State) : State :=
  if s.port.held then s.answer .wait
  else if s.mayWriteAperture r then (effect s).answer (.done [])
  else s.answer (.fault .denied)

end Sys2Proof.Machine
end

