-- ==== Sys2Proof/Machine/Parking.lean ====
section
/-! DEFINITION. Branch parking (chapter 10): PARK, WAKE, warm-up expiry and idle timer expiry. -/

namespace Sys2Proof.Machine

/-- 10 R162: the Branch parks from RUNNING: PARKED in the same step when the engine is idle, else PARKING. The idle timer stops. -/
def State.parkRunning (s : State) : State :=
  { s with branch.power := if s.idle then .parked else .parking, branch.idleTimer := none }

/-- 10 R162: PARK. -/
def State.park (r : Requester) (s : State) : State :=
  (match s.branch.power with
    | .running => s.parkRunning
    | .parking | .parked => s
    | .waking => { s with branch.parkAfterWake := true }).resultDone (.command .park) r 0

/-- 10 R163: WAKE. -/
def State.wake (r : Requester) (s : State) : State :=
  (match s.branch.power with
    | .running => s
    | .parking => { s with branch.power := .running }
    | .parked => s.beginWake
    | .waking => { s with branch.parkAfterWake := false }).resultDone (.command .wake) r 0

/-- 10 R163: the warm-up timer expires. With the mark set the state passes through RUNNING to PARKING, and an idle engine goes
straight on to PARKED; with no mark the state is RUNNING, and an idle engine starts its idle timer (R164). -/
def State.expireWarmUp (s : State) : State :=
  if s.branch.parkAfterWake then
    { s with
      branch.power := if s.idle then .parked else .parking
      branch.parkAfterWake := false
      branch.warmUpTimer := none }
  else
    { s with
      branch.power := .running
      branch.warmUpTimer := none
      branch.idleTimer := if s.idle then idleStart s.mgmt.autoPark else none }

/-- 10 R164: the idle timer expires: the state becomes PARKED and the Branch clock stops. -/
def State.expireIdle (s : State) : State := { s with branch.power := .parked, branch.idleTimer := none }

/-- WARM_UP_EXPIRY. The warm-up timer stands at zero. With time left on it, or with the timer stopped, there is no expiry, and nothing
changes (10 R166, log 3). -/
def execWarmUpExpiry (s : State) : Host.Outcome State Fault Refusal :=
  if s.branch.warmUpTimer = some 0 then .next s.expireWarmUp else .next s

/-- IDLE_TIMER_EXPIRY. The idle timer stands at zero. With time left on it, restarted or stopped, there is no expiry, and nothing
changes (10 R166, log 3). -/
def execIdleTimerExpiry (s : State) : Host.Outcome State Fault Refusal :=
  if s.branch.idleTimer = some 0 then .next s.expireIdle else .next s

/-- PARK, written by requester r. -/
def execPark (r : Requester) (s : State) : Host.Outcome State Fault Refusal :=
  .next (s.apertureGate r (State.park r))

/-- WAKE, written by requester r. -/
def execWake (r : Requester) (s : State) : Host.Outcome State Fault Refusal :=
  .next (s.apertureGate r (State.wake r))

end Sys2Proof.Machine
end

