-- ==== Sys2Proof/Machine/Reclaim.lean ====
section
/-! DEFINITION. The reclaim log (chapter 6): the reclaim match and late delivery, RECLAIM_POP and RECLAIM_CLEAR. -/

namespace Sys2Proof.Machine

/-- 06 R110: the key a record answers; every record is a READ. -/
def ReclaimRecord.key (r : ReclaimRecord) : Key :=
  { requester := r.requester, kind := .read, address := r.address, masks := r.masks }

/-- 06 R110: the place of the oldest record that matches a request, counted from the head. -/
def State.matchReclaim (s : State) (q : TrunkRequest) : Option Nat :=
  s.reclaim.records.findIdx? fun r => r.key == q.key

/-- 06 R112: LATE_DELIVERY of a record. -/
def State.lateDeliveryEvent (s : State) (r : ReclaimRecord) : Event :=
  { kind := .lateDelivery, window := some r.window, requester := some r.requester, epoch := s.window.epoch,
    detail := r.address, aux := r.sequence }

/-- 06 R110: the record at a place is removed and answers the request, and LATE_DELIVERY is generated. -/
def State.lateDeliver (s : State) (k : Nat) : State :=
  match s.reclaim.records[k]? with
  | some r =>
    let t := { s with reclaim.records := s.reclaim.records.eraseIdx k }
    (t.generate (t.lateDeliveryEvent r)).answer (.done r.data)
  | none => s

/-- 06 R114: RECLAIM_POP. -/
def State.reclaimPop (r : Requester) (s : State) : State :=
  match s.reclaim.records with
  | head :: rest => { s with reclaim.records := rest }.resultDone (.command .reclaimPop) r head.sequence
  | [] => s.resultRefused (.command .reclaimPop) r .empty 0

/-- 06 R115: RECLAIM_CLEAR. -/
def State.reclaimClear (r : Requester) (s : State) : State :=
  { s with reclaim.records := [] }.resultDone (.command .reclaimClear) r (BitVec.ofNat 16 s.reclaim.records.length)

/-- RECLAIM_POP, written by requester r. -/
def execReclaimPop (r : Requester) (s : State) : Host.Outcome State Fault Refusal :=
  .next (s.apertureGate r (State.reclaimPop r))

/-- RECLAIM_CLEAR, written by requester r. -/
def execReclaimClear (r : Requester) (s : State) : Host.Outcome State Fault Refusal :=
  .next (s.apertureGate r (State.reclaimClear r))

end Sys2Proof.Machine
end

