-- ==== Sys2Proof/Machine/WindowTable.lean ====
section
/-! DEFINITION. The window table unit (chapter 1): address decode, route snapshots, the eight COMMIT checks, COMMIT, REVERT, the
fence flags and UNFENCE. -/

namespace Sys2Proof.Machine

/-! ### Decode and route snapshots -/

/-- 01 R1: an address lies in the region of a valid record. -/
def WindowRecord.covers (r : WindowRecord) (a : Word) : Bool :=
  r.valid && decide (r.first ≤ a.toNat) && decide (a.toNat ≤ r.last)

/-- 01 R2: the window an address resolves to in the active table (01 R15: at most one covers it). -/
def State.decodeWindow (s : State) (a : Word) : Option WindowNo :=
  (List.finRange 16).find? fun w => (s.window.active.get w).covers a

/-- 01 R2: the word offset of an address in a window. -/
def WindowRecord.wordOffset (r : WindowRecord) (a : Word) : Nat := (a.toNat - r.first) / 4

/-- 01 R3: the half-words a Trunk word takes. -/
def LaneMode.halves : LaneMode → Nat
  | .narrow => 1
  | .paired => 2

/-- 01 R3: the branch start index of an item whose first word is at an address. -/
def WindowRecord.startIndex (r : WindowRecord) (a : Word) : BranchIndex :=
  r.branchBase + BitVec.ofNat 24 (r.laneMode.halves * r.wordOffset a)

/-- 01 R19: the route snapshot taken from active record w and the current epoch. -/
def State.snapshot (s : State) (w : WindowNo) (a : Word) : Route :=
  let r := s.window.active.get w
  { window := w, epoch := s.window.epoch, select := r.branchSelect, start := r.startIndex a, laneMode := r.laneMode,
    readClass := r.readClass, limit := BitVec.ofNat 12 r.limit, reissueCount := BitVec.ofNat 3 r.reissueCount,
    finalAction := r.finalAction, fill := r.fill }

/-! ### The COMMIT checks -/

/-- Two areas of byte addresses, each from first to last, share a byte. -/
def shareByte (first₁ last₁ first₂ last₂ : Nat) : Bool := decide (first₁ ≤ last₂) && decide (first₂ ≤ last₁)

/-- A record's region shares a byte with an area. -/
def WindowRecord.meets (r : WindowRecord) (first last : Nat) : Bool := shareByte r.first r.last first last

/-- 01 R15: the record's region shares a byte with the management aperture. -/
def State.meetsAperture (s : State) (first last : Nat) : Bool :=
  shareByte first last s.apertureBase (s.apertureBase + Config.apertureSize - 1)

/-- 01 R15: the last byte address of the notice ring. -/
def NoticeEngine.ringLast (n : NoticeEngine) : Nat := n.ringBase.toNat + 16 * n.ringSize - 1

/-- 01 R15: the area from first to last shares a byte with the notice ring or with the signal address word. -/
def NoticeEngine.meetsRing (n : NoticeEngine) (first last : Nat) : Bool :=
  shareByte first last n.ringBase.toNat n.ringLast
    || shareByte first last n.signalAddress.toNat (n.signalAddress.toNat + 3)

/-- 01 R13: the FIELD check's condition on one valid record. -/
def WindowRecord.fieldBad (r : WindowRecord) : Bool :=
  decide (r.sizeOrder < 12) || decide (24 < r.sizeOrder)
    || (r.limit == 0 && (r.reissueCount != 0 || r.finalActionBits == 1))
    || decide (2 ≤ r.laneModeBits.toNat) || decide (2 ≤ r.readClassBits.toNat)
    || decide (2 ≤ r.writeModeBits.toNat) || decide (2 ≤ r.finalActionBits.toNat)
    || decide (4095 < r.limit) || decide (7 < r.reissueCount)
    || !r.unusedClear

/-- 01 R14: the ALIGN check's condition. -/
def WindowRecord.misaligned (r : WindowRecord) : Bool := r.trunkBase.toNat % 2 ^ r.sizeOrder != 0

/-- 01 R14: the half-words a record's window spans. -/
def WindowRecord.halfWords (r : WindowRecord) : Nat := r.laneMode.halves * 2 ^ (r.sizeOrder - 2)

/-- 01 R14: the BRANCH_RANGE check's condition, the last half-word index exceeds 2^24 − 1. -/
def WindowRecord.outOfBranch (r : WindowRecord) : Bool :=
  decide (Config.branchSpace - 1 < r.branchBase.toNat + r.halfWords - 1)

/-- 01 R15: two valid records' regions share a byte. -/
def WindowRecord.overlaps (r q : WindowRecord) : Bool :=
  r.valid && q.valid && r.meets q.first q.last

/-- 01 R15: window w takes part in an overlapping pair of a table. -/
def overlapsAnother (table : Vector WindowRecord 16) (w : WindowNo) : Bool :=
  (List.finRange 16).any fun v => v != w && (table.get w).overlaps (table.get v)

/-- 01 R16: the SENSITIVE_REISSUE check's condition. -/
def WindowRecord.sensitiveReissues (r : WindowRecord) : Bool := r.readClassBits == 1 && r.reissueCount != 0

/-- 01 R12: the sum, modulo 2^32, of the 112 defined words of a table. -/
def tableSum (table : Vector WindowRecord 16) : Word :=
  ((List.finRange 16).map fun w => (table.get w).sum).foldl (· + ·) 0

/-- The lowest window number with a property, none when there is none. -/
def lowestWindow (p : WindowNo → Bool) : Option WindowNo := (List.finRange 16).find? p

/-- 01 R11: the lowest valid shadow record that fails a check. -/
def State.lowestShadow (s : State) (p : WindowRecord → Bool) : Option WindowNo :=
  lowestWindow fun w => (s.window.shadow.get w).valid && p (s.window.shadow.get w)

/-- 01 R11 checks 2 to 8 in their order, each with the lowest window that fails it. -/
def State.windowChecks (s : State) : List (Reason × Option WindowNo) :=
  [ (.field, s.lowestShadow WindowRecord.fieldBad),
    (.align, s.lowestShadow WindowRecord.misaligned),
    (.branchRange, s.lowestShadow WindowRecord.outOfBranch),
    (.overlap, lowestWindow (overlapsAnother s.window.shadow)),
    (.aperture, s.lowestShadow fun r => s.meetsAperture r.first r.last),
    (.ring, if s.notice.state = .off then none else s.lowestShadow fun r => s.notice.meetsRing r.first r.last),
    (.sensitiveReissue, s.lowestShadow WindowRecord.sensitiveReissues) ]

/-- 01 R11: the first check that fails, with the window it reports (none for CHECK); none when every check passes. -/
def State.commitFailure (s : State) : Option (Reason × Option WindowNo) :=
  if tableSum s.window.shadow ≠ s.mgmt.check then some (.check, none)
  else s.windowChecks.find? fun c => c.2.isSome

/-! ### COMMIT, REVERT and UNFENCE -/

/-- 07 R119: the number of fence flags that are set. -/
def State.fenceCount (s : State) : Nat := (List.finRange 16).countP fun w => s.fenced w

/-- 01 R10: every active record replaced, the epoch incremented, every fence flag cleared, as one step. -/
def State.install (s : State) : State :=
  { s with window.active := s.window.shadow, window.epoch := s.window.epoch + 1, window.fences := 0 }

/-- 01 R10, 07 R119: TABLE_COMMITTED, with the new epoch and the number of flags the COMMIT cleared. -/
def State.committedEvent (s : State) (r : Requester) : Event :=
  { kind := .tableCommitted, window := none, requester := some r, epoch := s.window.epoch + 1, detail := s.mgmt.check,
    aux := BitVec.ofNat 16 s.fenceCount }

/-- 01 R11: TABLE_REJECTED, with the unchanged epoch and the sum the bridge computed. -/
def State.rejectedEvent (s : State) (r : Requester) (reason : Reason) (w : Option WindowNo) : Event :=
  { kind := .tableRejected, window := none, requester := some r, epoch := s.window.epoch, detail := tableSum s.window.shadow,
    aux := auxTableRejected reason w }

/-- 01 R10, R11, 09 R151: COMMIT. -/
def State.commit (r : Requester) (s : State) : State :=
  match s.commitFailure with
  | none =>
    (s.install.generate (s.committedEvent r)).resultDone (.command .commit) r ((s.window.epoch + 1).setWidth 16)
  | some (reason, w) =>
    (s.generate (s.rejectedEvent r reason w)).resultRefused (.command .commit) r reason (BitVec.ofNat 16 (orNone w))

/-- 01 R18: REVERT. -/
def State.revert (r : Requester) (s : State) : State :=
  { s with window.shadow := s.window.active }.resultDone (.command .revert) r 0

/-- The 16 fence flags with one window's flag set. -/
def setFence (fences : BitVec 16) (w : WindowNo) : BitVec 16 := fences ||| (1#16 <<< w.val)

/-- The 16 fence flags with one window's flag cleared. -/
def clearFence (fences : BitVec 16) (w : WindowNo) : BitVec 16 := fences &&& ~~~(1#16 <<< w.val)

/-- 05 R102, 09 R151: UNFENCE; the result's value is the argument. -/
def State.unfence (r : Requester) (argument : BitVec 8) (s : State) : State :=
  if h : argument.toNat < 16 then
    if s.fenced ⟨argument.toNat, h⟩ then
      { s with window.fences := clearFence s.window.fences ⟨argument.toNat, h⟩ }.resultDone (.command .unfence) r
        (argument.setWidth 16)
    else s.resultRefused (.command .unfence) r .notFenced (argument.setWidth 16)
  else s.resultRefused (.command .unfence) r .field (argument.setWidth 16)

/-- COMMIT, written by requester r. -/
def execCommit (r : Requester) (s : State) : Host.Outcome State Fault Refusal :=
  .next (s.apertureGate r (State.commit r))

/-- REVERT, written by requester r. -/
def execRevert (r : Requester) (s : State) : Host.Outcome State Fault Refusal :=
  .next (s.apertureGate r (State.revert r))

/-- UNFENCE, written by requester r. -/
def execUnfence (r : Requester) (argument : BitVec 8) (s : State) : Host.Outcome State Fault Refusal :=
  .next (s.apertureGate r (State.unfence r argument))

end Sys2Proof.Machine
end

