-- ==== Sys2Proof/Machine/Delayed.lean ====
section
/-! DEFINITION. The delayed transaction unit and the post queue's admissions (chapters 2 and 3): answers from live entries,
admission, hold expiry and FLUSH. -/

namespace Sys2Proof.Machine

/-! ### Answers from a live entry -/

/-- 02 R27, R28: the answer a READY entry's result gives. -/
def Result.answer (r : Result) : Answer :=
  match r.status with
  | .ok | .filled => .done r.data
  | .fault code => .fault code

/-- 02 R28: a WRITE request whose data differs from the entry's in a compared byte. -/
def Entry.conflicts (e : Entry) (q : TrunkRequest) : Bool :=
  match e.request.access, q.access with
  | .write stored, .write repeated => dataDiffers stored repeated
  | _, _ => false

/-- 02 R27, R28: a request answered from the live entry of a slot. A READY entry that delivers becomes FREE. -/
def State.answerEntry (s : State) (i : Slot) (e : Entry) (q : TrunkRequest) : State :=
  if e.conflicts q then s.answer (.fault .conflict)
  else
    match e.phase with
    | .ready r _ => (s.freeEntry i).answer r.answer
    | _ => s.answer .wait

/-! ### Admission -/

/-- 02 R30: the condition of an admission to the pending table, with the slot taken: a FREE slot, and a live count below the
requester quota. -/
def State.admissionSlot (s : State) (r : Requester) : Option Slot :=
  if s.liveCount r < s.mgmt.quota.toNat then s.freeSlot else none

/-- 02 R30, R31: the delayed transaction unit's part of step 9 for a request with an effective lane: admission to the lowest
FREE slot, or a capacity WAIT with nothing recorded. -/
def State.admitDelayed (s : State) (q : TrunkRequest) (route : Route) : State :=
  match s.admissionSlot q.requester with
  | some i => ((s.putEntry i { request := q, route := route, phase := .queued }).enqueue (.entry i)).answer .wait
  | none => s.answer .wait

/-- 03 R49: a posted write joins the post queue at its tail. -/
def State.appendPost (s : State) (p : PostedWrite) : State := { s with posts := s.posts ++ [p] }

/-- 03 R49, R50: the post queue's part of step 9 for a WRITE with an effective lane: admission at the tail, answered DONE, or a
capacity WAIT while 16 writes are held. -/
def State.admitPosted (s : State) (q : TrunkRequest) (words : List LaneWord) (route : Route) : State :=
  if s.posts.length < Config.postCapacity then
    ((s.appendPost { requester := q.requester, address := q.address, words := words, route := route }).enqueue .posted).answer
      (.done [])
  else s.answer .wait

/-- 01 R4, 02 R32: the DONE of a request with no effective lane; zero data for a READ. -/
def TrunkRequest.zeroAnswer (q : TrunkRequest) : Answer :=
  match q.access with
  | .read masks => .done (masks.map fun _ => 0)
  | .write _ => .done []

/-- 08 R144: step 9, admission, for a request that decoded to window w. -/
def State.admission (s : State) (q : TrunkRequest) (w : WindowNo) : State :=
  let record := s.window.active.get w
  if noEffectiveLane record.laneMode q.access.masks then s.answer (TrunkRequest.zeroAnswer q)
  else
    match q.access with
    | .read _ => s.admitDelayed q (s.snapshot w q.address)
    | .write words =>
      if record.posted then s.admitPosted q words (s.snapshot w q.address) else s.admitDelayed q (s.snapshot w q.address)

/-! ### Hold expiry -/

/-- 02 R37: the hold timer of the READY entry in a slot expires: its result is disposed of and it becomes FREE. -/
def State.expireHold (s : State) (i : Slot) : State :=
  match s.slots.get i with
  | some e =>
    match e.phase with
    | .ready r (some _) => (s.freeEntry i).dispose e r
    | _ => s
  | none => s

/-- HOLD_EXPIRY. The hold timer of the slot stands at zero. With time left on it, or with no hold timer running in the slot, there is no
expiry, and nothing changes (02 R39, log 3). -/
def execHoldExpiry (i : Slot) (s : State) : Host.Outcome State Fault Refusal :=
  if s.holdRemaining i = some 0 then .next (s.expireHold i) else .next s

/-! ### FLUSH -/

/-- 02 R41: the four counts of PENDING_FLUSHED. -/
structure FlushCounts where
  freedQueued : Nat
  reclaimed : Nat
  cancelled : Nat
  discarded : Nat
  deriving DecidableEq, Repr

/-- No slot dealt with yet. -/
def FlushCounts.zero : FlushCounts := ⟨0, 0, 0, 0⟩

/-- 02 R40: FLUSH's action on one slot, with the counts so far. -/
def flushSlot (p : State × FlushCounts) (i : Slot) : State × FlushCounts :=
  let (s, n) := p
  match s.slots.get i with
  | none => (s, n)
  | some e =>
    match e.phase with
    | .queued =>
      ({ s.freeEntry i with branch.issueOrder := s.branch.issueOrder.filter (· != .entry i) },
        { n with freedQueued := n.freedQueued + 1 })
    | .ready r _ =>
      if e.reclaimable r then
        if s.reclaim.hasRoom then
          ((s.freeEntry i).handOver e r.data, { n with reclaimed := n.reclaimed + 1 })
        else
          ((s.freeEntry i).generate (s.overflowEvent e), { n with discarded := n.discarded + 1 })
      else (s.freeEntry i, { n with discarded := n.discarded + 1 })
    | .active => (s.putEntry i { e with phase := .cancelled }, { n with cancelled := n.cancelled + 1 })
    | .cancelled => (s, n)

/-- 02 R40: FLUSH over every slot in ascending order. -/
def State.flushSlots (s : State) : State × FlushCounts := (List.finRange 8).foldl flushSlot (s, .zero)

/-- 02 R41, 07 R119: PENDING_FLUSHED; its aux is the occupancy of the post queue. -/
def State.flushedEvent (s : State) (r : Requester) (n : FlushCounts) : Event :=
  { kind := .pendingFlushed, window := none, requester := some r, epoch := s.window.epoch,
    detail := detailPendingFlushed n.freedQueued n.reclaimed n.cancelled n.discarded,
    aux := BitVec.ofNat 16 s.posts.length }

/-- 02 R40, R41: FLUSH. A FLUSH that removes the last reference while no item is ACTIVE makes the engine idle (04 R84). -/
def State.flush (r : Requester) (s : State) : State :=
  let (t, n) := s.flushSlots
  (s.settle (t.generate (t.flushedEvent r n))).resultDone (.command .flush) r 0

/-- FLUSH, written by requester r. -/
def execFlush (r : Requester) (s : State) : Host.Outcome State Fault Refusal :=
  .next (s.apertureGate r (State.flush r))

end Sys2Proof.Machine
end

