-- ==== Sys2Proof/Machine/BranchEngine.lean ====
section
/-! DEFINITION. The branch engine (chapters 4 and 5): cycle lists, taking the head, cycle answers, handshake expiry and reissue, the
end of an item with the fence handling, and BRANCH_ABORT. -/

namespace Sys2Proof.Machine

/-! ### Cycle lists -/

/-- One half-word of an item as a cycle (04 R72, R73): the strobes are its effective lanes, and a WRITE drives both bytes from
their lanes. -/
def halfCycle (kind : Kind) (route : Route) (word : Nat) (lw : LaneWord) (upper : Bool) (index : BranchIndex) : Cycle :=
  { kind := kind, select := route.select, index := index,
    lowStrobe := lw.mask.getLsbD (if upper then 2 else 0), highStrobe := lw.mask.getLsbD (if upper then 3 else 1),
    data := match kind with
      | .read => none
      | .write => some (lw.data.extractLsb' (if upper then 16 else 0) 16),
    word := word, upper := upper }

/-- 04 R72: the half-words of word i of an item, in issue order. -/
def wordHalves (kind : Kind) (route : Route) (word : Nat) (lw : LaneWord) : List Cycle :=
  match route.laneMode with
  | .narrow => [halfCycle kind route word lw false (route.start + BitVec.ofNat 24 word)]
  | .paired =>
    [ halfCycle kind route word lw false (route.start + BitVec.ofNat 24 (2 * word)),
      halfCycle kind route word lw true (route.start + BitVec.ofNat 24 (2 * word + 1)) ]

/-- 01 R4: a half-word is issued when at least one of its lanes is effective. -/
def Cycle.strobed (c : Cycle) : Bool := c.lowStrobe || c.highStrobe

/-- 04 R72: the cycle list of an item. -/
def cycleList (kind : Kind) (route : Route) (words : List LaneWord) : List Cycle :=
  (words.zipIdx.flatMap fun p => wordHalves kind route p.2 p.1).filter (·.strobed)

/-- 04 R75: the strobed bytes of an ACK's data placed in the word that gave the half-word. -/
def placeRead (c : Cycle) (data : HalfWord) (w : Word) : Word :=
  let strobes : HalfWord := byteOf c.highStrobe ++ byteOf c.lowStrobe
  let shift := if c.upper then 16 else 0
  (w &&& ~~~(strobes.setWidth 32 <<< shift)) ||| ((data &&& strobes).setWidth 32 <<< shift)

/-! ### Items -/

/-- What the engine reads of an item from its owner. -/
structure Item where
  request : TrunkRequest
  route : Route
  deriving DecidableEq, Repr

/-- The kind of an item's cycles. -/
def Item.kind (it : Item) : Kind := it.request.access.kind

/-- A posted write as an item. -/
def PostedWrite.item (p : PostedWrite) : Item :=
  { request := { requester := p.requester, address := p.address, access := .write p.words }, route := p.route }

/-- An entry as an item. -/
def Entry.item (e : Entry) : Item := { request := e.request, route := e.route }

/-- 04 R66: the waiting item a reference at the head of the list names: the QUEUED entry of its slot, or the head of the post
queue (03 R52). -/
def State.waitingItem (s : State) (r : Ref) : Option Item :=
  match r with
  | .entry i => (s.slots.get i).bind fun e => if e.queued then some e.item else none
  | .posted => s.posts.head?.map (·.item)

/-- The item that is ACTIVE under a reference: the entry of its slot, ACTIVE or CANCELLED, or the post queue head. -/
def State.activeItem (s : State) (r : Ref) : Option Item :=
  match r with
  | .entry i => (s.slots.get i).map (·.item)
  | .posted => s.posts.head?.map (·.item)

/-! ### Taking the head -/

/-- 04 R70, R74: the progress of an item at its take: its first cycle outstanding, its handshake timer started. -/
def Item.progress (it : Item) (r : Ref) : Progress :=
  { item := r, cycles := cycleList it.kind it.route it.request.access.laneWords, cyclesDone := 0, reissuesUsed := 0,
    assembly := it.request.access.masks.map fun _ => 0, timer := handshakeStart it.route.limit }

/-- 04 R69: the item a take would make ACTIVE, with its reference: the head of the list, while the Branch is RUNNING or PARKING
and no item is ACTIVE. -/
def State.takeable (s : State) : Option (Ref × Item) :=
  match s.branch.issueOrder with
  | [] => none
  | r :: _ => if s.branch.power.runs && s.branch.active.isNone then (s.waitingItem r).map fun it => (r, it) else none

/-- 02 R34: a QUEUED entry taken becomes ACTIVE; a posted write stays the head of its queue, now draining (03 R54). -/
def State.markTaken (s : State) (r : Ref) : State :=
  match r with
  | .entry i => { s with slots := s.slots.set i ((s.slots.get i).map fun e => { e with phase := .active }) }
  | .posted => s

/-- TAKE_HEAD. The head's reference leaves the list and the item becomes ACTIVE with its first cycle outstanding. Where nothing
can be taken, nothing changes (log 1, log 10). -/
def execTakeHead (s : State) : Host.Outcome State Fault Refusal :=
  match s.takeable with
  | some (r, it) =>
    .next
      { s.markTaken r with branch.issueOrder := s.branch.issueOrder.tail, branch.active := some (it.progress r) }
  | none => .next s

/-! ### The end of an item -/

/-- The five ends of an item (04 R79); BRANCH_ABORT ends it as under SKIP with the aborted flag (05 R100). -/
inductive Ending
  | ok
  | device
  | skipped (aborted : Bool)
  | fenced
  deriving DecidableEq, Repr

/-- 02 R35: the result an entry's item ends with. -/
def endResult (ending : Ending) (access : Access) (fill : Word) (assembly : List Word) : Result :=
  match ending, access with
  | .ok, .read _ => { status := .ok, data := assembly }
  | .ok, .write _ => { status := .ok, data := [] }
  | .device, _ => { status := .fault .device, data := [] }
  | .skipped _, .read masks => { status := .filled, data := masks.map fun _ => fill }
  | .skipped _, .write _ => { status := .fault .timeout, data := [] }
  | .fenced, _ => { status := .fault .timeout, data := [] }

/-- A snapshot names window w and epoch e. -/
def Route.names (r : Route) (w : WindowNo) (e : BitVec 8) : Bool := r.window == w && r.epoch == e

/-- 05 R96: a QUEUED entry of window w and epoch e becomes READY with FAULT(FENCED), its hold timer starting; other entries stay. -/
def State.purgeEntry (s : State) (w : WindowNo) (ep : BitVec 8) (e : Entry) : Entry :=
  if e.queued && e.route.names w ep then s.readyEntry e { status := .fault .fenced, data := [] } else e

/-- 05 R96: the references that remain. The posted references name the waiting writes in order (03 R52). -/
def purgeRefs (slots : Vector (Option Entry) 8) (w : WindowNo) (ep : BitVec 8) : List Ref → List PostedWrite → List Ref
  | [], _ => []
  | .entry i :: refs, waiting =>
    if (slots.get i).any fun e => e.queued && e.route.names w ep then purgeRefs slots w ep refs waiting
    else .entry i :: purgeRefs slots w ep refs waiting
  | .posted :: refs, [] => .posted :: purgeRefs slots w ep refs []
  | .posted :: refs, p :: waiting =>
    if p.route.names w ep then purgeRefs slots w ep refs waiting else .posted :: purgeRefs slots w ep refs waiting

/-- 05 R96: the purge of window w and epoch e, taken when the fencing item has left its place, so that every posted write held
is waiting. -/
def State.purge (s : State) (w : WindowNo) (ep : BitVec 8) : State :=
  { s with
    slots := mapSlots s.slots fun e => some (s.purgeEntry w ep e)
    posts := s.posts.filter fun p => !p.route.names w ep
    branch.issueOrder := purgeRefs s.slots w ep s.branch.issueOrder s.posts }

/-- 05 R96: entries faulted, the number of QUEUED entries the purge takes. -/
def State.entriesFaulted (s : State) (w : WindowNo) (ep : BitVec 8) : Nat :=
  (List.finRange 8).countP fun i => (s.slots.get i).any fun e => e.queued && e.route.names w ep

/-- 05 R96: writes dropped, the number of waiting posted writes the purge takes. -/
def State.writesDropped (s : State) (w : WindowNo) (ep : BitVec 8) : Nat :=
  s.posts.countP fun p => p.route.names w ep

/-- 05 R98: WINDOW_FENCED. -/
def State.fencedEvent (s : State) (it : Item) (index : BranchIndex) : Event :=
  { kind := .windowFenced, window := some it.route.window, requester := some it.request.requester, epoch := s.window.epoch,
    detail := index.setWidth 32,
    aux := auxWindowFenced (s.entriesFaulted it.route.window it.route.epoch) (s.writesDropped it.route.window it.route.epoch)
      (it.route.epoch != s.window.epoch) }

/-- 05 R95, 01 R21: the fence handling of a FENCE outcome: the flag is set unless the item is retired, the purge is made, and
WINDOW_FENCED is generated. -/
def State.fenceHandling (s : State) (it : Item) (index : BranchIndex) : State :=
  let flagged :=
    if it.route.epoch = s.window.epoch then { s with window.fences := setFence s.window.fences it.route.window } else s
  (flagged.purge it.route.window it.route.epoch).generate (s.fencedEvent it index)

/-- An engine notice that carries the snapshot's window and epoch (07 R118). -/
def snapshotEvent (it : Item) (kind : NoticeKind) (detail : Word) (aux : BitVec 16) : Event :=
  { kind := kind, window := some it.route.window, requester := some it.request.requester, epoch := it.route.epoch,
    detail := detail, aux := aux }

/-- 04 R79 steps 3 and 4: the fence handling and the engine's own notice for an outcome. `index` is the half-word index of the
cycle answered ERR or abandoned. -/
def State.engineReport (s : State) (ending : Ending) (it : Item) (p : Progress) (index : BranchIndex) : State :=
  match ending with
  | .ok =>
    if p.reissuesUsed = 0 then s
    else s.generate (snapshotEvent it .reissueRecovered it.request.address (BitVec.ofNat 16 p.reissuesUsed))
  | .device => s.generate (snapshotEvent it .cycleError (index.setWidth 32) (BitVec.ofNat 16 p.cyclesDone))
  | .skipped aborted =>
    s.generate
      (snapshotEvent it .cycleSkipped (index.setWidth 32) (auxCycleSkipped p.cyclesDone p.reissuesUsed aborted))
  | .fenced => s.fenceHandling it index

/-- 04 R79 step 2: the outcome handed to the owner. An ACTIVE entry becomes READY (02 R35), a posted write leaves the queue (03
R56 to R59), and a CANCELLED entry's slot becomes FREE; its disposal notice comes after the engine's notice. -/
def State.ownerTakes (s : State) (r : Ref) (result : Result) : State :=
  match r with
  | .entry i =>
    match s.slots.get i with
    | some e => if e.phase = .cancelled then s.freeEntry i else s.putEntry i (s.readyEntry e result)
    | none => s
  | .posted => { s with posts := s.posts.tail }

/-- 02 R42: the disposal of the entry when it was CANCELLED. -/
def State.disposeCancelled (s : State) (entry : Option Entry) (result : Result) : State :=
  match entry with
  | some e => if e.phase = .cancelled then s.dispose e result else s
  | none => s

/-- The entry an item reference names. -/
def State.entryOf (s : State) (r : Ref) : Option Entry :=
  match r with
  | .entry i => s.slots.get i
  | .posted => none

/-- 04 R79: the end of the ACTIVE item, in its order: the cycle is withdrawn and the progress removed, the owner takes the
outcome, the fence handling and the engine's notice follow, then the owner's disposal notice, and an engine left with nothing
to do becomes idle (R84). -/
def State.endItem (s : State) (ending : Ending) : State :=
  match s.branch.active with
  | none => s
  | some p =>
    match s.activeItem p.item with
    | none => s
    | some it =>
      let result := endResult ending it.request.access it.route.fill p.assembly
      let index := (p.outstanding.map (·.index)).getD 0
      let ended := { s with branch.active := none }
      s.settle
        (((ended.ownerTakes p.item result).engineReport ending it p index).disposeCancelled (s.entryOf p.item) result)

/-! ### Cycle answers -/

/-- 04 R75: the read assembly after an ACK of a cycle. -/
def Progress.assembled (p : Progress) (c : Cycle) (data : HalfWord) : List Word :=
  match c.kind with
  | .read => p.assembly.modify c.word (placeRead c data)
  | .write => p.assembly

/-- 04 R76: the ACTIVE item's progress after an ACK of its outstanding cycle, with the next cycle's handshake timer. -/
def Progress.acked (p : Progress) (c : Cycle) (data : HalfWord) (limit : BitVec 12) : Progress :=
  { p with cyclesDone := p.cyclesDone + 1, assembly := p.assembled c data, timer := handshakeStart limit }

/-- The handshake limit of the ACTIVE item's snapshot. -/
def State.activeLimit (s : State) (p : Progress) : BitVec 12 := ((s.activeItem p.item).map (·.route.limit)).getD 0

/-- BRANCH_ACK. An ACK with no cycle outstanding is ignored (04 R78). DEDUCED, log 20: an ACK taken after an expiry that led to a reissue is
taken for the reissue, as the text of 05 R92 says, where R92's table has it ignored. -/
def execBranchAck (data : HalfWord) (s : State) : Host.Outcome State Fault Refusal :=
  match s.branch.active with
  | none => .next s
  | some p =>
    match p.outstanding with
    | none => .next s
    | some c =>
      let t := { s with branch.active := some (p.acked c data (s.activeLimit p)) }
      if p.cyclesDone + 1 < p.cycles.length then .next t else .next (t.endItem .ok)

/-- BRANCH_ERR. The item ends with outcome DEVICE (04 R77); an ERR with no cycle outstanding is ignored (R78). One taken after an expiry
that led to a reissue is taken for the reissue (DEDUCED, log 20). -/
def execBranchErr (s : State) : Host.Outcome State Fault Refusal := .next (s.endItem .device)

/-! ### Handshake expiry and BRANCH_ABORT -/

/-- 05 R90, R91: the abandoned cycle presented again as a new attempt. -/
def Progress.reissued (p : Progress) (limit : BitVec 12) : Progress :=
  { p with reissuesUsed := p.reissuesUsed + 1, timer := handshakeStart limit }

/-- 05 R90: the outstanding attempt is abandoned at its limit: reissued while the allowance lasts, else the final action. -/
def State.expireHandshake (s : State) : State :=
  match s.branch.active with
  | none => s
  | some p =>
    match s.activeItem p.item with
    | none => s
    | some it =>
      if p.reissuesUsed < it.route.reissueCount.toNat then
        { s with branch.active := some (p.reissued it.route.limit) }
      else
        match it.route.finalAction with
        | .skip => s.endItem (.skipped false)
        | .fence => s.endItem .fenced

/-- The handshake timer's remaining microseconds, none when it does not run (05 R88, R89). -/
def State.handshakeRemaining (s : State) : Option Nat := s.branch.active.bind (·.timer)

/-- HANDSHAKE_LIMIT_EXPIRY. The handshake timer stands at zero. With time left on it, restarted for another attempt or with none
running, there is no expiry, and nothing changes (05 R92, R104, R105, log 3). -/
def execHandshakeLimitExpiry (s : State) : Host.Outcome State Fault Refusal :=
  if s.handshakeRemaining = some 0 then .next s.expireHandshake else .next s

/-- 05 R100: BRANCH_ABORT. -/
def State.branchAbort (r : Requester) (s : State) : State :=
  if s.branch.active.isSome then (s.endItem (.skipped true)).resultDone (.command .branchAbort) r 0
  else s.resultRefused (.command .branchAbort) r .idle 0

/-- BRANCH_ABORT, written by requester r. -/
def execBranchAbort (r : Requester) (s : State) : Host.Outcome State Fault Refusal :=
  .next (s.apertureGate r (State.branchAbort r))

end Sys2Proof.Machine
end

