-- ==== Sys2Proof/Machine/NoticeEngine.lean ====
section
/-! DEFINITION. The notice engine (chapter 7): record and signal writes and their answers, stalls, NOTICE_START, NOTICE_STOP,
abandoned writes, the configuration and the consumer counter. -/

namespace Sys2Proof.Machine

/-! ### Record writes -/

/-- 07 R124: the record write of the backlog's head. -/
def NoticeEngine.recordWrite (n : NoticeEngine) (head : Notice) : EngineWrite :=
  { requester := n.ownRequester, address := n.ringBase + BitVec.ofNat 32 (16 * (n.producer.toNat % n.ringSize)),
    words := head.image }

/-- 07 R128: the signal write. -/
def NoticeEngine.signalWrite (n : NoticeEngine) : EngineWrite :=
  { requester := n.ownRequester, address := n.signalAddress, words := [n.signalValue] }

/-- RECORD_WRITE. Where the four conditions do not hold together the engine issues no write, and nothing changes (log 1). -/
def execRecordWrite (s : State) : Host.Outcome State Fault Refusal :=
  match s.notice.backlog with
  | head :: _ =>
    if s.notice.recordDue then
      .next
        { s with
          notice.flight := some { kind := .record, presented := s.notice.recordWrite head }
          notice.waitCount := 0 }
    else .next s
  | [] => .next s

/-- 07 R119: RING_HALF, with the counters of the moment. -/
def State.ringHalfEvent (s : State) : Event :=
  { kind := .ringHalf, window := none, requester := none, epoch := s.window.epoch, detail := s.notice.producer.setWidth 32,
    aux := s.notice.consumer }

/-- 07 R125 step 4, R129: RING_HALF is generated, and half-armed cleared, when occupancy is exactly half the ring size. -/
def State.ringHalf (s : State) : State :=
  if 2 * s.notice.occupancy = s.notice.ringSize ∧ s.notice.halfArmed then
    { s with notice.halfArmed := false }.generate s.ringHalfEvent
  else s

/-- 07 R125 step 5, R128: the signal write is issued when signal enable and signal-armed are both set. -/
def State.issueSignal (s : State) : State :=
  if s.notice.signalEnable && s.notice.signalArmed then
    { s with
      notice.signalArmed := false
      notice.waitCount := 0
      notice.flight := some { kind := .signal, presented := s.notice.signalWrite } }
  else s

/-- The producer counter rises by one and no write is in flight. -/
def State.recordLanded (s : State) : State :=
  { s with notice.producer := s.notice.producer + 1, notice.flight := none }

/-- 07 R125: steps 1 to 3 of a record write's DONE. -/
def State.recordDelivered (s : State) : State :=
  { s.recordLanded with notice.backlog := s.notice.backlog.tail, notice.waitCount := 0 }

/-- 07 R126: the engine stalls; no write is in flight. -/
def State.stall (s : State) (reason : StallReason) : State :=
  { s with notice.state := .stalled, notice.stallReason := reason, notice.flight := none }

/-- The kind of the write in flight. -/
def State.flightKind (s : State) : Option FlightKind := s.notice.flight.map (·.kind)

/-- 07 R125, R128: a WAIT answer: the repeat count rises; below 64 the same write is presented again, at 64 the engine stalls. -/
def State.writeWait (s : State) (reason : StallReason) : State :=
  let t := { s with notice.waitCount := s.notice.waitCount + 1 }
  if s.notice.waitCount + 1 < Config.waitLimit then t else t.stall reason

/-- RECORD_WRITE_DONE. With no record write in flight there is no such answer, and nothing changes (log 1). -/
def execRecordWriteDone (s : State) : Host.Outcome State Fault Refusal :=
  if s.flightKind = some .record then .next s.recordDelivered.ringHalf.issueSignal else .next s

/-- RECORD_WRITE_WAIT. -/
def execRecordWriteWait (s : State) : Host.Outcome State Fault Refusal :=
  if s.flightKind = some .record then .next (s.writeWait .recordWaitLimit) else .next s

/-- RECORD_WRITE_FAULT, "whatever its code". -/
def execRecordWriteFault (_code : FaultCode) (s : State) : Host.Outcome State Fault Refusal :=
  if s.flightKind = some .record then .next (s.stall .recordFault) else .next s

/-! ### Signal writes -/

/-- SIGNAL_WRITE_DONE. -/
def execSignalWriteDone (s : State) : Host.Outcome State Fault Refusal :=
  if s.flightKind = some .signal then .next { s with notice.flight := none } else .next s

/-- SIGNAL_WRITE_WAIT. -/
def execSignalWriteWait (s : State) : Host.Outcome State Fault Refusal :=
  if s.flightKind = some .signal then .next (s.writeWait .signalWaitLimit) else .next s

/-- SIGNAL_WRITE_FAULT. -/
def execSignalWriteFault (_code : FaultCode) (s : State) : Host.Outcome State Fault Refusal :=
  if s.flightKind = some .signal then .next (s.stall .signalFault) else .next s

/-! ### Abandoned writes -/

/-- 07 R131, R133: a write in flight becomes an abandoned write. -/
def Flight.abandon (f : Flight) : Flight :=
  match f.kind with
  | .record => { f with kind := .abandoned true false }
  | .signal => { f with kind := .abandoned false false }
  | .abandoned .. => f

/-- 07 R131: an abandoned write remembers a NOTICE_START from OFF. -/
def Flight.restart (f : Flight) : Flight :=
  match f.kind with
  | .abandoned wasRecord _ => { f with kind := .abandoned wasRecord true }
  | .record | .signal => f

/-- 07 R131, R133: the DONE of an abandoned record write. In OFF the producer counter rises. Else it is ignored after a
NOTICE_START from OFF; without one the producer counter rises, and in RUNNING steps 4 and 5 of R125 apply (log 7). -/
def State.abandonedDone (s : State) (restarted : Bool) : State :=
  match s.notice.state with
  | .off => s.recordLanded
  | .running => if restarted then { s with notice.flight := none } else s.recordLanded.ringHalf.issueSignal
  | .stalled => if restarted then { s with notice.flight := none } else s.recordLanded

/-- ABANDONED_WRITE_ANSWER. With no abandoned write in flight there is no such answer, and nothing changes (log 1). -/
def execAbandonedWriteAnswer (answer : WriteAnswer) (s : State) : Host.Outcome State Fault Refusal :=
  match s.flightKind with
  | some (.abandoned wasRecord restarted) =>
    if wasRecord ∧ answer = .done then .next (s.abandonedDone restarted) else .next { s with notice.flight := none }
  | _ => .next s

/-! ### NOTICE_START and NOTICE_STOP -/

/-- 07 R122: the FIELD check of NOTICE_START fails. -/
def NoticeEngine.ringBad (n : NoticeEngine) : Bool :=
  decide (n.ringOrder.toNat < 3) || decide (10 < n.ringOrder.toNat) || decide (Config.trunkSpace - 1 < n.ringLast)

/-- 07 R122: the RING_CLASH check of NOTICE_START fails: the ring or the signal address word shares a byte with the aperture or
with the region of a valid active record. -/
def State.ringClashes (s : State) : Bool :=
  s.notice.meetsRing s.apertureBase (s.apertureBase + Config.apertureSize - 1)
    || (List.finRange 16).any fun w =>
      (s.window.active.get w).valid && s.notice.meetsRing (s.window.active.get w).first (s.window.active.get w).last

/-- 07 R122: the engine starts from OFF. -/
def State.startEngine (s : State) : State :=
  { s with
    notice.state := .running
    notice.stallReason := .none
    notice.producer := 0
    notice.consumer := 0
    notice.signalArmed := true
    notice.halfArmed := true
    notice.waitCount := 0
    notice.flight := s.notice.flight.map Flight.restart }

/-- 07 R127: a stall on a signal write. -/
def StallReason.onSignal : StallReason → Bool
  | .signalFault | .signalWaitLimit => true
  | .none | .recordFault | .recordWaitLimit => false

/-- 07 R127: a STALLED engine resumes. -/
def State.resumeEngine (s : State) : State :=
  { s with
    notice.state := .running
    notice.stallReason := .none
    notice.waitCount := 0
    notice.signalArmed := s.notice.signalArmed || s.notice.stallReason.onSignal }

/-- 07 R122: NOTICE_START. -/
def State.noticeStart (r : Requester) (s : State) : State :=
  match s.notice.state with
  | .off =>
    if s.notice.ringBad then s.resultRefused (.command .noticeStart) r .field 0
    else if s.ringClashes then s.resultRefused (.command .noticeStart) r .ringClash 0
    else s.startEngine.resultDone (.command .noticeStart) r 0
  | .stalled => s.resumeEngine.resultDone (.command .noticeStart) r 0
  | .running => s.resultDone (.command .noticeStart) r 0

/-- 07 R131: NOTICE_STOP. The WAIT repeat count stays as it is (DEDUCED, log 17). -/
def State.noticeStop (r : Requester) (s : State) : State :=
  { s with
    notice.state := .off
    notice.backlog := []
    notice.stallReason := .none
    notice.flight := s.notice.flight.map Flight.abandon }.resultDone (.command .noticeStop) r 0

/-- NOTICE_START, written by requester r. -/
def execNoticeStart (r : Requester) (s : State) : Host.Outcome State Fault Refusal :=
  .next (s.apertureGate r (State.noticeStart r))

/-- NOTICE_STOP, written by requester r. -/
def execNoticeStop (r : Requester) (s : State) : Host.Outcome State Fault Refusal :=
  .next (s.apertureGate r (State.noticeStop r))

/-! ### The configuration and the consumer counter -/

/-- 07 R122: a value is in range for a configuration field. -/
def ConfigField.inRange (field : ConfigField) (value : Word) : Bool :=
  match field with
  | .ringBase => value.toNat % 16 == 0
  | .ringOrder => decide (3 ≤ value.toNat) && decide (value.toNat ≤ 10)
  | .signalAddress => value.toNat % 4 == 0
  | .signalValue => true
  | .signalEnable => true
  | .ownRequester => decide (value.toNat ≤ 15)

/-- 07 R122, 11 R167: a configuration field takes a value; signal enable takes bit 0. -/
def NoticeEngine.withField (n : NoticeEngine) (field : ConfigField) (value : Word) : NoticeEngine :=
  match field with
  | .ringBase => { n with ringBase := value }
  | .ringOrder => { n with ringOrder := value.setWidth 4 }
  | .signalAddress => { n with signalAddress := value }
  | .signalValue => { n with signalValue := value }
  | .signalEnable => { n with signalEnable := value.getLsbD 0 }
  | .ownRequester => { n with ownRequester := lowFin 16 value.toNat }

/-- 07 R122: a write to a configuration word. -/
def State.configWrite (r : Requester) (field : ConfigField) (value : Word) (s : State) : State :=
  if s.notice.state = .off then
    if ConfigField.inRange field value then
      { s with notice := s.notice.withField field value }.resultDone .noticeWrite r 0
    else s.resultRefused .noticeWrite r .field 0
  else s.resultRefused .noticeWrite r .state 0

/-- 07 R130: the new occupancy a consumer counter value would give. -/
def NoticeEngine.newOccupancy (n : NoticeEngine) (c : BitVec 16) : Nat := (n.producer - c).toNat

/-- 07 R130, 11 R167: a write to the consumer counter, which takes bits 15:0. DEDUCED, log 21: at ring order 0, which 07 R122 admits only as
the value after hard reset, the ring size is 2^0 = 1 and half of it one half, so an empty ring is below half. -/
def State.consumerWrite (r : Requester) (value : Word) (s : State) : State :=
  let c : BitVec 16 := value.setWidth 16
  if s.notice.newOccupancy c ≤ s.notice.occupancy then
    { s with
      notice.consumer := c
      notice.signalArmed := true
      notice.halfArmed := s.notice.halfArmed || decide (2 * s.notice.newOccupancy c < s.notice.ringSize) }.resultDone
      .noticeWrite r 0
  else s.resultRefused .noticeWrite r .badIndex 0

/-- NOTICE_CONFIGURATION_WRITE, written by requester r. -/
def execNoticeConfigurationWrite (r : Requester) (field : ConfigField) (value : Word) (s : State) :
    Host.Outcome State Fault Refusal :=
  .next (s.apertureGate r (State.configWrite r field value))

/-- CONSUMER_COUNTER_WRITE, written by requester r. -/
def execConsumerCounterWrite (r : Requester) (value : Word) (s : State) : Host.Outcome State Fault Refusal :=
  .next (s.apertureGate r (State.consumerWrite r value))

end Sys2Proof.Machine
end

