-- ==== Sys2Proof/Machine/Resets.lean ====
section
/-! DEFINITION. The soft reset of BRIDGE_RESET (09 R159 and the rules it gathers), hard reset (09 R160) and its release (09 R148). -/

namespace Sys2Proof.Machine

/-- 02 R45, first step, on one slot: a READY SENSITIVE OK read is handed to the reclaim log; a read lost to a full log is counted. -/
def resetSlot (p : State × Nat) (i : Slot) : State × Nat :=
  let (s, lost) := p
  match s.slots.get i with
  | some e =>
    match e.phase with
    | .ready r _ =>
      if e.reclaimable r then (if s.reclaim.hasRoom then (s.handOver e r.data, lost) else (s, lost + 1)) else (s, lost)
    | _ => (s, lost)
  | none => (s, lost)

/-- 02 R45, first step, over the slots in ascending order, with the number of reads lost. -/
def State.resetHandOver (s : State) : State × Nat := (List.finRange 8).foldl resetSlot (s, 0)

/-- 04 R86, 10 R166: the branch engine after soft reset: RUNNING and idle, the idle timer started. -/
def State.resetBranch (s : State) : BranchEngine :=
  { issueOrder := [], active := none, power := .running, parkAfterWake := false, warmUpTimer := none,
    idleTimer := idleStart s.mgmt.autoPark }

/-- 07 R133: the notice engine after soft reset. -/
def NoticeEngine.softReset (n : NoticeEngine) : NoticeEngine :=
  { n with
    backlog := []
    flight := n.flight.map Flight.abandon
    waitCount := 0
    state := if n.state = .off then .off else .running
    stallReason := .none
    signalArmed := n.signalArmed || (n.state == .stalled && n.stallReason.onSignal) }

/-- 07 R119: BRIDGE_RESET, with the counts gathered from the state the reset was taken in. -/
def State.resetEvent (s : State) (r : Requester) (readsLost : Nat) : Event :=
  { kind := .bridgeReset, window := none, requester := some r, epoch := s.window.epoch,
    detail := detailBridgeReset s.posts.length readsLost, aux := BitVec.ofNat 16 s.notice.backlog.length }

/-- 09 R159: every block's part of the soft reset, after the hand-over to the reclaim log. -/
def State.softResetBlocks (s : State) : State :=
  { s with
    window.fences := 0
    slots := Vector.replicate 8 none
    posts := []
    branch := s.resetBranch
    notice := s.notice.softReset
    mgmt.resetCause := .command }

/-- 09 R159, 07 R134: BRIDGE_RESET. The hand-over comes before the slots are freed, and the notice after every block has taken the
soft reset. -/
def State.bridgeReset (r : Requester) (s : State) : State :=
  let (t, lost) := s.resetHandOver
  (t.softResetBlocks.generate (s.resetEvent r lost)).resultDone (.command .bridgeReset) r 0

/-- BRIDGE_RESET, written by requester r. -/
def execBridgeReset (r : Requester) (s : State) : Host.Outcome State Fault Refusal :=
  .next (s.apertureGate r (State.bridgeReset r))

/-- 09 R158: the reset cause of a hard reset. -/
def hardResetCause : HardResetCause → ResetCause
  | .powerOn => .powerOn
  | .resetPin => .resetPin

/-- HARD_RESET. Every block takes its values after hard reset, and the bridge is held until the release (08 R147). The strap value
is fixed until the next release (09 R148). -/
def execHardReset (cause : HardResetCause) (s : State) : Host.Outcome State Fault Refusal :=
  .next
    { window := .reset, slots := Vector.replicate 8 none, posts := [], branch := .reset, reclaim := .reset, notice := .reset,
      mgmt := .reset (hardResetCause cause) s.mgmt.strap, port := { held := true, answer := none }, pending := s.pending }

/-- HARD_RESET_RELEASE. The strap value is sampled and the time base starts counting. With no hard reset held there is no release,
and nothing changes (09 R148: "A change on the strap pins at any other time does not move the aperture"; log 1). -/
def execHardResetRelease (strap : BitVec 4) (s : State) : Host.Outcome State Fault Refusal :=
  if s.port.held then .next { s with port.held := false, mgmt.strap := strap } else .next s

end Sys2Proof.Machine
end

