-- ==== Sys2Proof/Machine/Management.lean ====
section
/-! DEFINITION. The management unit (chapter 9): settings, TIME_SET, the COMMAND word, and the effect of a write to each aperture
word (11 R167). -/

namespace Sys2Proof.Machine

/-! ### Settings -/

/-- 09 R154: an accepted write to a settings word: taken when in range, with every bit outside the field zero, else refused. -/
def State.settingWrite (r : Requester) (inRange : Bool) (taken : State → State) (s : State) : State :=
  if inRange then (taken s).resultDone .settingWrite r 0 else s.resultRefused .settingWrite r .field 0

/-- 02 R33: the requester quota, 1 to 4. -/
def State.quotaWrite (r : Requester) (v : Word) : State → State :=
  State.settingWrite r (decide (1 ≤ v.toNat) && decide (v.toNat ≤ 4)) fun s => { s with mgmt.quota := v.setWidth 3 }

/-- 02 R36: the hold limit, 0 to 65535. -/
def State.holdLimitWrite (r : Requester) (v : Word) : State → State :=
  State.settingWrite r (decide (v.toNat ≤ 65535)) fun s => { s with mgmt.holdLimit := v.setWidth 16 }

/-- 09 R155: the management write mask, 16 bits, not zero. -/
def State.writeMaskWrite (r : Requester) (v : Word) : State → State :=
  State.settingWrite r (decide (1 ≤ v.toNat) && decide (v.toNat ≤ 65535)) fun s =>
    { s with mgmt.writeMask := v.setWidth 16 }

/-- 09 R154: the warm-up, 1 to 63. -/
def State.warmUpWrite (r : Requester) (v : Word) : State → State :=
  State.settingWrite r (decide (1 ≤ v.toNat) && decide (v.toNat ≤ 63)) fun s => { s with mgmt.warmUp := v.setWidth 6 }

/-- 10 R164: a new auto-park interval acts on the idle timer at once: a running timer starts again from it, or stops at 0, and a
stopped one starts when the engine is RUNNING and idle. -/
def State.takeAutoPark (v : BitVec 8) (s : State) : State :=
  { s with
    mgmt.autoPark := v
    branch.idleTimer :=
      if s.branch.idleTimer.isSome || (s.branch.power == .running && s.idle) then idleStart v else none }

/-- 09 R154, 10 R164: the auto-park interval, 0 to 255. A write of the value already held changes nothing beyond the result
(R154; DEDUCED, log 6). -/
def State.autoParkWrite (r : Requester) (v : Word) : State → State :=
  State.settingWrite r (decide (v.toNat ≤ 255)) fun s =>
    if v.setWidth 8 = s.mgmt.autoPark then s else s.takeAutoPark (v.setWidth 8)

/-- The write to a settings word. -/
def State.writeSetting (r : Requester) : Setting → Word → State → State
  | .requesterQuota => State.quotaWrite r
  | .holdLimit => State.holdLimitWrite r
  | .writeMask => State.writeMaskWrite r
  | .warmUp => State.warmUpWrite r
  | .autoPark => State.autoParkWrite r

/-- REQUESTER_QUOTA_WRITE, written by requester r. -/
def execRequesterQuotaWrite (r : Requester) (v : Word) (s : State) : Host.Outcome State Fault Refusal :=
  .next (s.apertureGate r (State.quotaWrite r v))

/-- HOLD_LIMIT_WRITE, written by requester r. -/
def execHoldLimitWrite (r : Requester) (v : Word) (s : State) : Host.Outcome State Fault Refusal :=
  .next (s.apertureGate r (State.holdLimitWrite r v))

/-- MANAGEMENT_WRITE_MASK_WRITE, written by requester r; the gate judges it against the mask in force before it (08 R141). -/
def execManagementWriteMaskWrite (r : Requester) (v : Word) (s : State) : Host.Outcome State Fault Refusal :=
  .next (s.apertureGate r (State.writeMaskWrite r v))

/-- WARM_UP_WRITE, written by requester r. -/
def execWarmUpWrite (r : Requester) (v : Word) (s : State) : Host.Outcome State Fault Refusal :=
  .next (s.apertureGate r (State.warmUpWrite r v))

/-- AUTO_PARK_INTERVAL_WRITE, written by requester r. -/
def execAutoParkIntervalWrite (r : Requester) (v : Word) (s : State) : Host.Outcome State Fault Refusal :=
  .next (s.apertureGate r (State.autoParkWrite r v))

/-! ### Commands -/

/-- 09 R156: TIME_SET. -/
def State.timeSet (r : Requester) (s : State) : State :=
  { s with mgmt.timeBase := s.mgmt.stage }.resultDone (.command .timeSet) r 0

/-- 09 R150: a code that names no command: the result alone changes, its value the code written. -/
def State.unknownCommand (r : Requester) (code : BitVec 8) (s : State) : State :=
  s.resultRefused .unknownCommand r .unknown (code.setWidth 16)

/-- 09 R150, R152: a command taken with its argument, which UNFENCE alone uses. -/
def State.takeCommand (r : Requester) (argument : BitVec 8) : Command → State → State
  | .commit => State.commit r
  | .revert => State.revert r
  | .unfence => State.unfence r argument
  | .flush => State.flush r
  | .reclaimPop => State.reclaimPop r
  | .reclaimClear => State.reclaimClear r
  | .noticeStart => State.noticeStart r
  | .noticeStop => State.noticeStop r
  | .park => State.park r
  | .wake => State.wake r
  | .branchAbort => State.branchAbort r
  | .timeSet => State.timeSet r
  | .bridgeReset => State.bridgeReset r

/-- 09 R150, 11 R167: a write to COMMAND, by its code and argument. -/
def State.commandWrite (r : Requester) (code argument : BitVec 8) (s : State) : State :=
  match Command.ofCode code with
  | some c => s.takeCommand r argument c
  | none => s.unknownCommand r code

/-- TIME_SET, written by requester r. -/
def execTimeSet (r : Requester) (s : State) : Host.Outcome State Fault Refusal :=
  .next (s.apertureGate r (State.timeSet r))

/-- UNKNOWN_COMMAND, written by requester r. A code that does name a command is taken as that command. -/
def execUnknownCommand (r : Requester) (code : BitVec 8) (s : State) : Host.Outcome State Fault Refusal :=
  .next (s.apertureGate r (State.commandWrite r code 0))

/-! ### The effect of an accepted aperture write -/

/-- 09 R157: CHECK takes the value of every accepted write. -/
def State.checkWrite (v : Word) (s : State) : State := { s with mgmt.check := v }

/-- 09 R157: STAGE takes the value of every accepted write. -/
def State.stageWrite (v : Word) (s : State) : State := { s with mgmt.stage := v }

/-- 01 R8: a shadow word stores the written word as it stands; the eighth changes nothing. -/
def State.shadowWrite (w : WindowNo) (k : Fin 8) (v : Word) (s : State) : State :=
  { s with window.shadow := s.window.shadow.set w ((s.window.shadow.get w).withWord k v) }

/-- 11 R167: the effect of an accepted write on each aperture word. Read-only words and offsets in no table change nothing. -/
def State.writeWord (r : Requester) (word : ApertureWord) (v : Word) : State → State :=
  match word with
  | .setting which => State.writeSetting r which v
  | .command => State.commandWrite r (v.extractLsb' 0 8) (v.extractLsb' 8 8)
  | .check => State.checkWrite v
  | .stage => State.stageWrite v
  | .config field => State.configWrite r field v
  | .consumer => State.consumerWrite r v
  | .shadow w k => State.shadowWrite w k v
  | .identity | .resetCause | .status | .timeBase | .resultFirst | .resultSecond | .producer | .engineStatus
  | .nextSequence | .active .. | .pendingSlot .. | .reclaimHead .. | .branchState | .activeItem | .outstandingCycle
  | .postQueue | .postHead | .undefined => id

end Sys2Proof.Machine
end

