-- ==== Sys2Proof/Machine/Views.lean ====
section
/-! DEFINITION. What a read of each aperture word returns (09 R149, 02 R47, 03 R62, 04 R85, 06 R116, 07 R132, 11 11.2 to 11.5). -/

namespace Sys2Proof.Machine

/-- 09 R149: the status word. -/
def State.statusWord (s : State) : Word :=
  bits 0 2 (EngineState.code s.notice.state) ||| bits 4 2 (PowerState.code s.branch.power) ||| bits 8 4 s.occupied
    ||| bits 12 5 s.posts.length ||| bits 20 4 s.reclaim.records.length ||| flagBit 24 (s.window.fences != 0)
    ||| bits 28 4 s.mgmt.strap.toNat

/-- 09 R154: the value in force of a setting. -/
def State.settingWord (s : State) : Setting → Word
  | .requesterQuota => s.mgmt.quota.setWidth 32
  | .holdLimit => s.mgmt.holdLimit.setWidth 32
  | .writeMask => s.mgmt.writeMask.setWidth 32
  | .warmUp => s.mgmt.warmUp.setWidth 32
  | .autoPark => s.mgmt.autoPark.setWidth 32

/-- 11 11.2: the first word of the last command result. -/
def CommandResult.first (c : CommandResult) : Word :=
  bits 0 8 (Origin.code c.origin) ||| bits 8 4 c.requester.val ||| bits 12 2 (ResultOutcome.code c.outcome)
    ||| bits 16 4 (Reason.code c.reason) ||| bits 24 8 c.serial.toNat

/-- 07 R122: a configuration field as read. -/
def NoticeEngine.fieldWord (n : NoticeEngine) : ConfigField → Word
  | .ringBase => n.ringBase
  | .ringOrder => n.ringOrder.setWidth 32
  | .signalAddress => n.signalAddress
  | .signalValue => n.signalValue
  | .signalEnable => flagBit 0 n.signalEnable
  | .ownRequester => bits 0 4 n.ownRequester.val

/-- 07 R132: the engine status word. DEDUCED, log 17: bits 30:24 show the WAIT repeat count as the engine keeps it, with a write in flight
or with none. -/
def NoticeEngine.statusWord (n : NoticeEngine) : Word :=
  bits 0 2 (EngineState.code n.state) ||| bits 4 3 (StallReason.code n.stallReason) ||| bits 8 3 n.backlog.length
    ||| flagBit 12 n.signalArmed ||| flagBit 13 n.halfArmed
    ||| bits 16 2 ((n.flight.map fun f => FlightKind.code f.kind).getD 0) ||| bits 24 7 n.waitCount

/-- 11 11.2: word k of an active record; the eighth word shows the fence flag of w, the epoch and all the fence flags. -/
def State.activeWord (s : State) (w : WindowNo) (k : Fin 8) : Word :=
  if k = 7 then flagBit 0 (s.fenced w) ||| bits 8 8 s.window.epoch.toNat ||| bits 16 16 s.window.fences.toNat
  else (s.window.active.get w).word k

/-- 02 R24: the admission order of a QUEUED entry, its position in the list counted from 1. -/
def State.admissionOrder (s : State) (i : Slot) : Nat := s.branch.issueOrder.findIdx (· == .entry i) + 1

/-- 02 R47: the reissues used of an ACTIVE or CANCELLED entry, the count of the engine's progress (04 R70). -/
def State.entryReissues (s : State) (i : Slot) : Nat :=
  match s.branch.active with
  | some p => if p.item = .entry i then p.reissuesUsed else 0
  | none => 0

/-- 02 R47, 11 11.4: the data words a slot shows: stored write data, or the read data of a READY result. -/
def Entry.shownData (e : Entry) : List Word :=
  match e.request.access, e.phase with
  | .write words, _ => words.map (·.data)
  | .read _, .ready r _ => r.data
  | .read _, _ => []

/-- 11 11.4 word 0. -/
def State.pendingWord0 (s : State) (i : Slot) (e : Entry) : Word :=
  let common := bits 0 3 (Phase.code e.phase) ||| bits 3 1 (Kind.code e.request.access.kind)
    ||| bits 4 4 e.request.requester.val ||| bits 8 4 e.request.access.count
  match e.phase with
  | .queued => common ||| bits 24 5 (s.admissionOrder i)
  | .active | .cancelled => common ||| bits 20 3 (s.entryReissues i)
  | .ready r _ => common ||| bits 12 2 (Status.code r.status) ||| bits 16 4 r.status.faultCode

/-- 11 11.4: word k of the snapshot of an occupied slot. -/
def State.entryWord (s : State) (i : Slot) (e : Entry) (k : Nat) : Word :=
  match k with
  | 0 => s.pendingWord0 i e
  | 1 => e.request.address
  | 2 => maskImage e.request.access.masks
  | 3 => BitVec.ofNat 32 ((s.holdRemaining i).getD 0)
  | 4 =>
    bits 0 4 e.route.window.val ||| bits 8 8 e.route.epoch.toNat ||| bits 16 3 e.route.select.toNat
      ||| bits 20 1 (LaneMode.code e.route.laneMode) ||| bits 21 1 (ReadClass.code e.route.readClass)
      ||| bits 22 1 (FinalAction.code e.route.finalAction)
  | 5 => e.route.start.setWidth 32
  | 6 => bits 0 12 e.route.limit.toNat ||| bits 16 3 e.route.reissueCount.toNat
  | 7 => e.route.fill
  | k + 8 => e.shownData.getD k 0

/-- 02 R47: word k of a slot's snapshot; a FREE slot reads as zero. -/
def State.pendingWord (s : State) (i : Slot) (k : Nat) : Word :=
  match s.slots.get i with
  | some e => s.entryWord i e k
  | none => 0

/-- 06 R116, 11 11.5: word k of the reclaim head view. -/
def State.reclaimWord (s : State) (k : Nat) : Word :=
  match k, s.reclaim.records.head? with
  | 0, _ => bits 0 4 s.reclaim.records.length ||| bits 16 16 s.reclaim.nextSequence.toNat
  | _, none => 0
  | 1, some r =>
    bits 0 16 r.sequence.toNat ||| bits 16 4 r.requester.val ||| bits 20 4 r.window.val ||| bits 24 8 r.epoch.toNat
  | 2, some r => r.address
  | 3, some r => bits 0 4 r.masks.length
  | 4, some r => maskImage r.masks
  | 5, some r => r.timeTag
  | k + 6, some r => r.data.getD k 0

/-- 04 R85: the branch state word. -/
def State.branchWord (s : State) : Word :=
  bits 0 2 (PowerState.code s.branch.power) ||| flagBit 2 s.branch.parkAfterWake ||| bits 8 5 s.branch.issueOrder.length
    ||| bits 16 4 (s.branch.issueOrder.countP (· != .posted)) ||| bits 24 5 (s.branch.issueOrder.countP (· == .posted))

/-- 04 R85: the ACTIVE item word. -/
def State.activeItemWord (s : State) : Word :=
  match s.branch.active with
  | none => 0
  | some p =>
    (match p.item with
      | .entry i => bits 0 2 1 ||| bits 4 3 i.val
      | .posted => bits 0 2 2)
      ||| bits 8 5 p.cycles.length ||| bits 16 4 p.cyclesDone ||| bits 20 3 p.reissuesUsed

/-- 04 R85: the outstanding cycle word. -/
def State.outstandingWord (s : State) : Word :=
  match s.outstanding with
  | none => 0
  | some c =>
    bits 0 24 c.index.toNat ||| bits 24 3 c.select.toNat ||| bits 28 1 (Kind.code c.kind) ||| flagBit 29 c.lowStrobe
      ||| flagBit 30 c.highStrobe

/-- The draining head with the engine's progress (03 R62). -/
def State.drainingHead (s : State) : Option (PostedWrite × Progress) :=
  match s.branch.active, s.posts with
  | some p, w :: _ => if p.item = .posted then some (w, p) else none
  | _, _ => none

/-- 03 R62: the post queue word. -/
def State.postWord (s : State) : Word :=
  match s.drainingHead with
  | none => bits 0 5 s.posts.length
  | some (w, p) =>
    bits 0 5 s.posts.length ||| flagBit 8 true ||| bits 12 4 p.cyclesDone ||| bits 16 4 w.requester.val
      ||| bits 20 4 w.route.window.val ||| bits 24 8 w.route.epoch.toNat

/-- 03 R62: the post queue head address. -/
def State.postAddressWord (s : State) : Word := (s.drainingHead.map (·.1.address)).getD 0

/-- 08 R140, 11 11.2: the word a read of the aperture returns, as it stands when the read is taken. -/
def State.readWord (s : State) : ApertureWord → Word
  | .identity => Config.identity
  | .resetCause => bits 0 2 (ResetCause.code s.mgmt.resetCause)
  | .status => s.statusWord
  | .timeBase => s.mgmt.timeBase
  | .setting which => s.settingWord which
  | .command => 0
  | .check => s.mgmt.check
  | .stage => s.mgmt.stage
  | .resultFirst => s.mgmt.result.first
  | .resultSecond => s.mgmt.result.value.setWidth 32
  | .config field => s.notice.fieldWord field
  | .producer => s.notice.producer.setWidth 32
  | .consumer => s.notice.consumer.setWidth 32
  | .engineStatus => s.notice.statusWord
  | .nextSequence => s.notice.nextSequence.setWidth 32
  | .shadow w k => (s.window.shadow.get w).word k
  | .active w k => s.activeWord w k
  | .pendingSlot i k => s.pendingWord i k.val
  | .reclaimHead k => s.reclaimWord k
  | .branchState => s.branchWord
  | .activeItem => s.activeItemWord
  | .outstandingCycle => s.outstandingWord
  | .postQueue => s.postWord
  | .postHead => s.postAddressWord
  | .undefined => 0

end Sys2Proof.Machine
end

