-- ==== Sys2Proof/Machine/TrunkPort.lean ====
section
/-! DEFINITION. The Trunk port (chapter 8): the check sequence of a request, and the port's side of an aperture access. -/

namespace Sys2Proof.Machine

/-! ### The aperture, step 2 -/

/-- 08 R140, rules 2 and 3, for an access of one full word at an aperture word: a READ is answered with the word as it stands, a
WRITE is judged by the write mask and takes effect. -/
def State.apertureAccess (s : State) (r : Requester) (word : ApertureWord) : Access → State
  | .read _ => s.answer (.done [s.readWord word])
  | .write [w] => s.apertureGate r (State.writeWord r word w.data)
  | .write _ => s.answer (.fault .form)

/-- 08 R140: step 2 for a request whose address lies in the aperture. -/
def State.apertureRequest (s : State) (q : TrunkRequest) : State :=
  if q.access.singleFull then
    s.apertureAccess q.requester (ApertureWord.ofOffset (s.apertureOffset q.address)) q.access
  else s.answer (.fault .form)

/-! ### Steps 5 to 9 -/

/-- 08 R142: the last byte of a request. -/
def TrunkRequest.lastByte (q : TrunkRequest) : Nat := q.address.toNat + 4 * q.access.count - 1

/-- 08 R143, 07 R119: ACCESS_DENIED. -/
def State.deniedEvent (s : State) (q : TrunkRequest) (w : WindowNo) : Event :=
  { kind := .accessDenied, window := some w, requester := some q.requester, epoch := s.window.epoch, detail := q.address,
    aux := auxAccessDenied q.access.kind q.access.count }

/-- 08 R142 to R144: steps 5 to 9, window decode, SPAN, permission, fence and admission. -/
def State.windowRequest (s : State) (q : TrunkRequest) : State :=
  match s.decodeWindow q.address with
  | none => s.answer (.fault .noRoute)
  | some w =>
    if (s.window.active.get w).last < TrunkRequest.lastByte q then s.answer (.fault .span)
    else if !(s.window.active.get w).permits q.requester then (s.generate (s.deniedEvent q w)).answer (.fault .denied)
    else if s.fenced w then s.answer (.fault .fenced)
    else s.admission q w

/-! ### Steps 3 and 4 -/

/-- 08 R138 step 4, 06 R110: the reclaim match, for a READ; else steps 5 to 9. -/
def State.reclaimOrWindow (s : State) (q : TrunkRequest) : State :=
  match q.access.kind, s.matchReclaim q with
  | .read, some k => s.lateDeliver k
  | _, _ => s.windowRequest q

/-- 08 R138 step 3: the pending match; else step 4. -/
def State.matchOrPass (s : State) (q : TrunkRequest) : State :=
  match (s.matchLive q).bind fun i => (s.slots.get i).map fun e => (i, e) with
  | some (i, e) => s.answerEntry i e q
  | none => s.reclaimOrWindow q

/-! ### The check sequence -/

/-- 08 R138: a request through the check sequence; while the reset pin holds the bridge it is answered WAIT (R147). -/
def State.present (s : State) (q : TrunkRequest) : State :=
  if s.port.held then s.answer .wait
  else if q.malformed then s.answer (.fault .form)
  else if s.inAperture q.address then s.apertureRequest q
  else s.matchOrPass q

/-- TRUNK_REQUEST: a request taken whole and passed through the check sequence. One whose address lies in the aperture is decided
at step 2. -/
def execTrunkRequest (q : TrunkRequest) (s : State) : Host.Outcome State Fault Refusal := .next (s.present q)

/-- 08 R140: the single-word, full-mask WRITE of a value at a byte offset from the aperture base. -/
def State.apertureWriteRequest (s : State) (r : Requester) (offset : BitVec 12) (v : Word) : TrunkRequest :=
  { requester := r, address := BitVec.ofNat 32 (s.apertureBase + offset.toNat),
    access := .write [{ mask := fullMask, data := v }] }

/-- APERTURE_WRITE: the write presented to the port. -/
def execApertureWrite (r : Requester) (offset : BitVec 12) (v : Word) (s : State) : Host.Outcome State Fault Refusal :=
  .next (s.present (s.apertureWriteRequest r offset v))

/-- 08 R139, R140: the fault an aperture request is refused with: FORM for a malformed request or one of the wrong shape, DENIED for
a WRITE from a requester whose bit is clear in the write mask; none for an accepted access or an address outside the aperture. -/
def State.apertureRefusal (s : State) (q : TrunkRequest) : Option FaultCode :=
  if !s.inAperture q.address then none
  else if q.malformed || !q.access.singleFull then some .form
  else if q.access.isWrite && !s.mayWriteAperture q.requester then some .denied
  else none

/-- APERTURE_ACCESS_REFUSED: neither refusal has any effect or notice. A request the aperture would not refuse is no such event, and
nothing changes (log 1). While the reset pin holds the bridge it is answered WAIT (R147). -/
def execApertureAccessRefused (q : TrunkRequest) (s : State) : Host.Outcome State Fault Refusal :=
  if s.port.held then .next (s.answer .wait)
  else
    match s.apertureRefusal q with
    | some code => .next (s.answer (.fault code))
    | none => .next s

end Sys2Proof.Machine
end

