-- ==== Sys2Proof/Machine/Dispatch.lean ====
section
/-! DEFINITION. The dispatch of every command to its meaning. -/

namespace Sys2Proof.Machine

def exec (i : Instr) (s : State) : Host.Outcome State Fault Refusal :=
  match i with
  | .trunkRequest q => Sys2Proof.Machine.execTrunkRequest q s
  | .takeHead => Sys2Proof.Machine.execTakeHead s
  | .branchAck data => Sys2Proof.Machine.execBranchAck data s
  | .branchErr => Sys2Proof.Machine.execBranchErr s
  | .handshakeLimitExpiry => Sys2Proof.Machine.execHandshakeLimitExpiry s
  | .holdExpiry slot => Sys2Proof.Machine.execHoldExpiry slot s
  | .warmUpExpiry => Sys2Proof.Machine.execWarmUpExpiry s
  | .idleTimerExpiry => Sys2Proof.Machine.execIdleTimerExpiry s
  | .recordWrite => Sys2Proof.Machine.execRecordWrite s
  | .recordWriteDone => Sys2Proof.Machine.execRecordWriteDone s
  | .recordWriteWait => Sys2Proof.Machine.execRecordWriteWait s
  | .recordWriteFault code => Sys2Proof.Machine.execRecordWriteFault code s
  | .signalWriteDone => Sys2Proof.Machine.execSignalWriteDone s
  | .signalWriteWait => Sys2Proof.Machine.execSignalWriteWait s
  | .signalWriteFault code => Sys2Proof.Machine.execSignalWriteFault code s
  | .abandonedWriteAnswer answer => Sys2Proof.Machine.execAbandonedWriteAnswer answer s
  | .commit r => Sys2Proof.Machine.execCommit r s
  | .revert r => Sys2Proof.Machine.execRevert r s
  | .unfence r argument => Sys2Proof.Machine.execUnfence r argument s
  | .flush r => Sys2Proof.Machine.execFlush r s
  | .reclaimPop r => Sys2Proof.Machine.execReclaimPop r s
  | .reclaimClear r => Sys2Proof.Machine.execReclaimClear r s
  | .noticeStart r => Sys2Proof.Machine.execNoticeStart r s
  | .noticeStop r => Sys2Proof.Machine.execNoticeStop r s
  | .park r => Sys2Proof.Machine.execPark r s
  | .wake r => Sys2Proof.Machine.execWake r s
  | .branchAbort r => Sys2Proof.Machine.execBranchAbort r s
  | .timeSet r => Sys2Proof.Machine.execTimeSet r s
  | .bridgeReset r => Sys2Proof.Machine.execBridgeReset r s
  | .unknownCommand r code => Sys2Proof.Machine.execUnknownCommand r code s
  | .requesterQuotaWrite r value => Sys2Proof.Machine.execRequesterQuotaWrite r value s
  | .holdLimitWrite r value => Sys2Proof.Machine.execHoldLimitWrite r value s
  | .managementWriteMaskWrite r value => Sys2Proof.Machine.execManagementWriteMaskWrite r value s
  | .warmUpWrite r value => Sys2Proof.Machine.execWarmUpWrite r value s
  | .autoParkIntervalWrite r value => Sys2Proof.Machine.execAutoParkIntervalWrite r value s
  | .noticeConfigurationWrite r field value => Sys2Proof.Machine.execNoticeConfigurationWrite r field value s
  | .consumerCounterWrite r value => Sys2Proof.Machine.execConsumerCounterWrite r value s
  | .apertureWrite r offset value => Sys2Proof.Machine.execApertureWrite r offset value s
  | .hardReset cause => Sys2Proof.Machine.execHardReset cause s
  | .hardResetRelease strap => Sys2Proof.Machine.execHardResetRelease strap s
  | .apertureAccessRefused q => Sys2Proof.Machine.execApertureAccessRefused q s

end Sys2Proof.Machine
end

