-- ==== Sys2Proof/Machine/OwnEvents.lean ====
section
/-! DEFINITION. The events the bridge takes by itself when no command waits (log 2): a take or a record write whose conditions hold
("as soon as", 04 R69, 07 R124), then a timer at zero, the handshake timer first. -/

namespace Sys2Proof.Machine

/-- The lowest slot whose hold timer stands at zero. -/
def State.holdDue (s : State) : Option Slot :=
  (List.finRange 8).find? fun i => s.holdRemaining i == some 0

/-- The event of the bridge's own that is due, none when only time can pass. -/
def State.ownEvent (s : State) : Option Instr :=
  if s.takeable.isSome then some .takeHead
  else if s.notice.recordDue then some .recordWrite
  else if s.handshakeRemaining = some 0 then some .handshakeLimitExpiry
  else
    match s.holdDue with
    | some i => some (.holdExpiry i)
    | none =>
      if s.branch.warmUpTimer = some 0 then some .warmUpExpiry
      else if s.branch.idleTimer = some 0 then some .idleTimerExpiry
      else none

end Sys2Proof.Machine
end

