-- ==== Sys2Proof/Machine/Step.lean ====
section
/-! DEFINITION. The step: the command at the front of the queue is taken. On an empty queue the bridge takes the event of its own that
is due, else one microsecond passes (DESIGN CHOICE, log 2). -/

namespace Sys2Proof.Machine

/-- One step of the bridge. -/
def step (s : State) : Host.Outcome State Fault Refusal :=
  match s.pending with
  | c :: rest => exec c { s with pending := rest }
  | [] =>
    match s.ownEvent with
    | some c => exec c s
    | none => .next (s.elapse 1)

/-- The state with the command a table word spells at the front of its queue; no table word spells one. -/
def State.withFetchWord (s : State) (nbits w : Nat) : State :=
  match decodeTableWord nbits w with
  | some c => { s with pending := c :: s.pending }
  | none => s

end Sys2Proof.Machine
end

