-- ==== Sys2Proof/Safety.lean ====
section
/-! DEFINITION. What a good state of the bridge is: the laws of the device that the spec states of the whole part, as predicates on
State. The statements for the provers say that every step keeps them. -/

namespace Sys2Proof.Machine

/-! ### The pending table -/

/-- The key of the live entry in a slot, none when the slot holds no live entry. -/
def State.liveKey (s : State) (i : Slot) : Option Key :=
  (s.slots.get i).bind fun e => if e.live then some e.request.key else none

/-- 02 R25: no two live entries have one key. -/
def State.UniqueLiveKeys (s : State) : Prop :=
  ∀ i j : Slot, i ≠ j → s.liveKey i ≠ none → s.liveKey i ≠ s.liveKey j

/-- 02 R26: no requester holds more than 4 live entries, and the quota that keeps it so is at most 4 (02 R33). -/
def State.WithinQuota (s : State) : Prop :=
  s.mgmt.quota.toNat ≤ 4 ∧ ∀ r : Requester, s.liveCount r ≤ 4

/-! ### Capacities -/

/-- 03 R48, 06 R106, 07 R123: the post queue, the reclaim log and the backlog stay within their places. -/
def State.WithinCapacity (s : State) : Prop :=
  s.posts.length ≤ 16 ∧ s.reclaim.records.length ≤ 8 ∧ s.notice.backlog.length ≤ 4

/-! ### Settings and configuration -/

/-- 09 R154, 07 R122: the settings and the notice configuration hold values in their ranges, or the zeros of hard reset. -/
def State.SettingsLegal (s : State) : Prop :=
  (1 ≤ s.mgmt.quota.toNat ∧ s.mgmt.quota.toNat ≤ 4) ∧ s.mgmt.writeMask ≠ 0 ∧ s.mgmt.warmUp ≠ 0
    ∧ (s.notice.ringOrder = 0 ∨ (3 ≤ s.notice.ringOrder.toNat ∧ s.notice.ringOrder.toNat ≤ 10))
    ∧ s.notice.ringBase.toNat % 16 = 0 ∧ s.notice.signalAddress.toNat % 4 = 0

/-! ### Items and their references -/

/-- The slot holds a QUEUED entry. -/
def State.slotQueued (s : State) (i : Slot) : Bool := (s.slots.get i).any (·.queued)

/-- The entry is on the Branch: ACTIVE or CANCELLED. -/
def Entry.onBranch (e : Entry) : Bool := e.phase == .active || e.phase == .cancelled

/-- The slot holds an ACTIVE or CANCELLED entry. -/
def State.slotOnBranch (s : State) (i : Slot) : Bool := (s.slots.get i).any (·.onBranch)

/-- The reference the ACTIVE item was taken by. -/
def State.activeRef (s : State) : Option Ref := s.branch.active.map (·.item)

/-- 04 R66, 03 R52: one reference for each QUEUED entry and for each waiting posted write, none twice; the ACTIVE item is the one
entry that is ACTIVE or CANCELLED, or the post queue head. -/
def State.ItemsTracked (s : State) : Prop :=
  (s.branch.issueOrder.filter (· != .posted)).Nodup
    ∧ (∀ i : Slot, .entry i ∈ s.branch.issueOrder ↔ s.slotQueued i)
    ∧ (∀ i : Slot, s.activeRef = some (.entry i) ↔ s.slotOnBranch i)
    ∧ s.branch.issueOrder.count .posted + (if s.draining then 1 else 0) = s.posts.length

/-- An item the Trunk port can have admitted: it passed FORM (08 R139) and has an effective lane under its own snapshot (02 R30,
03 R49). -/
def Item.Formed (it : Item) : Prop :=
  it.request.malformed = false ∧ noEffectiveLane it.route.laneMode it.request.access.masks = false

/-- 04 R70: the progress of an ACTIVE item is that of the item it names: its own cycle list, an outstanding cycle, no more reissues
than its allowance, a read assembly of its word count, and a handshake timer, of at most its limit, unless it is HOLD. -/
def Progress.FitsItem (p : Progress) (it : Item) : Prop :=
  p.cycles = cycleList it.kind it.route it.request.access.laneWords
    ∧ p.cyclesDone < p.cycles.length
    ∧ p.reissuesUsed ≤ it.route.reissueCount.toNat
    ∧ p.assembly.length = it.request.access.count
    ∧ (p.timer.isSome ↔ it.route.limit ≠ 0)
    ∧ ∀ n ∈ p.timer, n ≤ it.route.limit.toNat

/-- 04 R70: every item is formed, and the ACTIVE item's progress fits it. -/
def State.ProgressSound (s : State) : Prop :=
  (∀ i : Slot, ∀ e ∈ s.slots.get i, e.item.Formed) ∧ (∀ w ∈ s.posts, w.item.Formed)
    ∧ ∀ p ∈ s.branch.active, ∃ it ∈ s.activeItem p.item, p.FitsItem it

/-! ### Fences -/

/-- The posted writes that wait: all but the draining head (03 R48). -/
def State.waitingPosts (s : State) : List PostedWrite := if s.draining then s.posts.tail else s.posts

/-- 05 R97: while a window's fence flag is set, no item of that window and the current epoch waits. -/
def State.FencedWindowsQuiet (s : State) : Prop :=
  ∀ w : WindowNo, s.fenced w = true →
    (∀ i : Slot, ∀ e ∈ s.slots.get i, e.queued = true → e.route.names w s.window.epoch = false)
      ∧ ∀ p ∈ s.waitingPosts, p.route.names w s.window.epoch = false

/-! ### Windows -/

/-- 01 R1: byte address a lies in the region of a valid record. -/
def WindowRecord.HoldsByte (r : WindowRecord) (a : Nat) : Prop :=
  r.valid = true ∧ r.trunkBase.toNat ≤ a ∧ a ≤ r.trunkBase.toNat + 2 ^ r.sizeOrder - 1

/-- 09 R148: byte address a lies in the management aperture. -/
def State.ApertureByte (s : State) (a : Nat) : Prop :=
  s.mgmt.strap.toNat * 0x10000000 + 0x0FFF0000 ≤ a ∧ a ≤ s.mgmt.strap.toNat * 0x10000000 + 0x0FFF0FFF

/-- 01 R15: byte address a lies in the notice ring or in the signal address word. -/
def NoticeEngine.RingByte (n : NoticeEngine) (a : Nat) : Prop :=
  (n.ringBase.toNat ≤ a ∧ a ≤ n.ringBase.toNat + 16 * 2 ^ n.ringOrder.toNat - 1)
    ∨ (n.signalAddress.toNat ≤ a ∧ a ≤ n.signalAddress.toNat + 3)

/-- 01 R13: what the FIELD check asks of a valid record: size order 12 to 24; a HOLD limit with neither reissue nor FENCE; enumerated
fields that name a value; limit and reissue count in range; unused bits zero. -/
def WindowRecord.FieldOk (r : WindowRecord) : Prop :=
  (12 ≤ r.sizeOrder ∧ r.sizeOrder ≤ 24)
    ∧ (r.limit = 0 → r.reissueCount = 0 ∧ r.finalActionBits ≠ 1)
    ∧ (r.laneModeBits.toNat ≤ 1 ∧ r.readClassBits.toNat ≤ 1 ∧ r.writeModeBits.toNat ≤ 1 ∧ r.finalActionBits.toNat ≤ 1)
    ∧ (r.limit ≤ 4095 ∧ r.reissueCount ≤ 7)
    ∧ r.unusedClear = true

/-- 01 R14: the trunk base is a multiple of the window size. -/
def WindowRecord.Aligned (r : WindowRecord) : Prop := 2 ^ r.sizeOrder ∣ r.trunkBase.toNat

/-- 01 R14: the last half-word index is at most 2^24 − 1, in NARROW and in PAIRED mode. -/
def WindowRecord.InBranch (r : WindowRecord) : Prop :=
  (r.laneModeBits = 0 → r.branchBase.toNat + 2 ^ (r.sizeOrder - 2) - 1 ≤ 2 ^ 24 - 1)
    ∧ (r.laneModeBits = 1 → r.branchBase.toNat + 2 ^ (r.sizeOrder - 1) - 1 ≤ 2 ^ 24 - 1)

/-- 01 R16: a SENSITIVE record has no reissue. -/
def WindowRecord.SensitiveOnce (r : WindowRecord) : Prop := r.readClassBits = 1 → r.reissueCount = 0

/-- 01 R13, R14, R16: what the checks FIELD, ALIGN, BRANCH_RANGE and SENSITIVE_REISSUE ask of one valid record. -/
def WindowRecord.Legal (r : WindowRecord) : Prop := r.FieldOk ∧ r.Aligned ∧ r.InBranch ∧ r.SensitiveOnce

/-- Every valid record of a table is legal by itself. -/
def TableLegal (table : Vector WindowRecord 16) : Prop :=
  ∀ w : WindowNo, (table.get w).valid = true → (table.get w).Legal

/-- 01 R15: no byte lies in the regions of two valid records, in a valid record's region and the aperture, or, while the notice
engine is not OFF, in a valid record's region and the ring or the signal address word. -/
def State.TableApart (s : State) (table : Vector WindowRecord 16) : Prop :=
  (∀ w v : WindowNo, ∀ a : Nat, w ≠ v → (table.get w).HoldsByte a → ¬(table.get v).HoldsByte a)
    ∧ (∀ w : WindowNo, ∀ a : Nat, (table.get w).HoldsByte a → ¬s.ApertureByte a)
    ∧ (s.notice.state ≠ .off → ∀ w : WindowNo, ∀ a : Nat, (table.get w).HoldsByte a → ¬s.notice.RingByte a)

/-- 01 R11: window w of the shadow table fails the check with this reason. CHECK names no window. -/
def State.FailsAt (s : State) (reason : Reason) (w : WindowNo) : Prop :=
  let r := s.window.shadow.get w
  match reason with
  | .field => r.valid = true ∧ ¬r.FieldOk
  | .align => r.valid = true ∧ ¬r.Aligned
  | .branchRange => r.valid = true ∧ ¬r.InBranch
  | .overlap => ∃ v : WindowNo, v ≠ w ∧ ∃ a : Nat, r.HoldsByte a ∧ (s.window.shadow.get v).HoldsByte a
  | .aperture => ∃ a : Nat, r.HoldsByte a ∧ s.ApertureByte a
  | .ring => s.notice.state ≠ .off ∧ ∃ a : Nat, r.HoldsByte a ∧ s.notice.RingByte a
  | .sensitiveReissue => r.valid = true ∧ ¬r.SensitiveOnce
  | _ => False

/-- 01 R11: the checks that name a window, in their order. -/
def commitOrder : List Reason := [.field, .align, .branchRange, .overlap, .aperture, .ring, .sensitiveReissue]

/-- 01 R12: the sum, modulo 2^32, of the 112 defined shadow words. -/
def State.shadowSum (s : State) : Word :=
  ((List.finRange 16).flatMap fun w => (List.finRange 7).map fun k => (s.window.shadow.get w).word k.castSucc).sum

/-- 01 R15, 01 R22: the active table is legal and apart, and while the reset pin holds the bridge, with the strap value yet to be
sampled, it holds no valid record and the notice engine is OFF. -/
def State.WindowsSound (s : State) : Prop :=
  TableLegal s.window.active ∧ s.TableApart s.window.active
    ∧ (s.port.held = true → s.notice.state = .off ∧ ∀ w : WindowNo, (s.window.active.get w).valid = false)

/-! ### Branch power -/

/-- 10 R161 to R164: PARKED is idle; PARKING is busy; no item is ACTIVE in WAKING; the warm-up timer runs in WAKING only and the
mark is set in WAKING only; the idle timer runs in RUNNING only, while the engine is idle, and then whenever the auto-park
interval is nonzero. -/
def State.PowerSound (s : State) : Prop :=
  (s.branch.power = .parked → s.idle = true)
    ∧ (s.branch.power = .parking → s.idle = false)
    ∧ (s.branch.power = .waking → s.branch.active = none)
    ∧ (s.branch.warmUpTimer.isSome = true ↔ s.branch.power = .waking)
    ∧ (s.branch.parkAfterWake = true → s.branch.power = .waking)
    ∧ (s.branch.idleTimer.isSome = true → s.branch.power = .running ∧ s.idle = true)
    ∧ (s.branch.power = .running → s.idle = true → s.mgmt.autoPark ≠ 0 → s.branch.idleTimer.isSome = true)

/-! ### The notice engine -/

/-- A record write whose DONE advances the producer counter is in flight: a record write, or an abandoned one with no NOTICE_START
from OFF since (07 R125, R131). -/
def NoticeEngine.recordPending (n : NoticeEngine) : Bool :=
  n.flight.any fun f => f.kind == .record || f.kind == .abandoned true false

/-- 07 R124: occupancy never exceeds the ring size while RUNNING or STALLED, and is below it while a record may still land. -/
def State.RingSafe (s : State) : Prop :=
  s.notice.state ≠ .off →
    s.notice.occupancy ≤ s.notice.ringSize ∧ (s.notice.recordPending = true → s.notice.occupancy < s.notice.ringSize)

/-- A write the engine itself still presents: a record write or a signal write. -/
def FlightKind.live : FlightKind → Bool
  | .record | .signal => true
  | .abandoned .. => false

/-- 07 R122 to R128: a stall reason stands in STALLED only; STALLED has no write in flight; OFF has an empty backlog and at most an
abandoned write; a record write in flight, or one that stalled the engine, has its notice at the backlog's head; a write the engine
presents has had fewer than 64 WAITs. -/
def State.EngineSound (s : State) : Prop :=
  (s.notice.stallReason = .none ↔ s.notice.state ≠ .stalled)
    ∧ (s.notice.state = .stalled → s.notice.flight = none)
    ∧ (s.notice.state = .off → s.notice.backlog = [] ∧ ∀ f ∈ s.notice.flight, f.kind.live = false)
    ∧ ((∃ f ∈ s.notice.flight, f.kind = .record) → s.notice.backlog ≠ [])
    ∧ (s.notice.stallReason = .recordFault ∨ s.notice.stallReason = .recordWaitLimit → s.notice.backlog ≠ [])
    ∧ (∀ f ∈ s.notice.flight, f.kind.live = true → s.notice.waitCount < 64)
    ∧ s.notice.waitCount ≤ 64

/-! ### Gates and results -/

/-- The requester of the aperture write a command row stands for. -/
def commandWriter : Instr → Option Requester
  | .commit r | .revert r | .unfence r _ | .flush r | .reclaimPop r | .reclaimClear r | .noticeStart r | .noticeStop r
  | .park r | .wake r | .branchAbort r | .timeSet r | .bridgeReset r | .unknownCommand r _ | .requesterQuotaWrite r _
  | .holdLimitWrite r _ | .managementWriteMaskWrite r _ | .warmUpWrite r _ | .autoParkIntervalWrite r _
  | .noticeConfigurationWrite r _ _ | .consumerCounterWrite r _ | .apertureWrite r _ _ => some r
  | .trunkRequest _ | .takeHead | .branchAck _ | .branchErr | .handshakeLimitExpiry | .holdExpiry _ | .warmUpExpiry
  | .idleTimerExpiry | .recordWrite | .recordWriteDone | .recordWriteWait | .recordWriteFault _ | .signalWriteDone
  | .signalWriteWait | .signalWriteFault _ | .abandonedWriteAnswer _ | .hardReset _ | .hardResetRelease _
  | .apertureAccessRefused _ => none

/-- 08 R140: an aperture write of a requester is accepted: the bridge is out of hard reset and the requester's bit is set. -/
def State.accepts (s : State) (r : Requester) : Prop := s.port.held = false ∧ s.mgmt.writeMask.getLsbD r.val = true

/-- 09 R151, 08 R140: a state with a new last command result, the serial risen by one, and the Trunk answer DONE. -/
def State.reported (s : State) (origin : Origin) (r : Requester) (outcome : ResultOutcome) (reason : Reason)
    (value : BitVec 16) : State :=
  { s with
    mgmt.result :=
      { origin := origin, requester := r, outcome := outcome, reason := reason, value := value,
        serial := s.mgmt.result.serial + 1 }
    port.answer := some (.done []) }

/-- 07 R120, R123: a state after a notice is generated: the next sequence number risen by one, and the notice, with that number and
the time base, at the backlog's tail unless the engine is OFF or the backlog holds 4. -/
def State.notified (s : State) (kind : NoticeKind) (window : Option WindowNo) (requester : Option Requester)
    (epoch : BitVec 8) (detail : Word) (aux : BitVec 16) : State :=
  { s with
    notice.nextSequence := s.notice.nextSequence + 1
    notice.backlog :=
      if s.notice.state = .off ∨ 4 ≤ s.notice.backlog.length then s.notice.backlog
      else
        s.notice.backlog
          ++ [{ kind := kind, window := window, requester := requester, epoch := epoch,
                sequence := s.notice.nextSequence, timeTag := s.mgmt.timeBase, detail := detail, aux := aux }] }

/-! ### Writes in flight -/

/-- 07 R131, R133: a write in flight becomes an abandoned write that remembers what it was. -/
def flightAbandoned : Option Flight → Option Flight
  | some { kind := .record, presented := x } => some { kind := .abandoned true false, presented := x }
  | some { kind := .signal, presented := x } => some { kind := .abandoned false false, presented := x }
  | other => other

/-- 07 R131: an abandoned write remembers a NOTICE_START from OFF. -/
def flightRestarted : Option Flight → Option Flight
  | some { kind := .abandoned wasRecord _, presented := x } => some { kind := .abandoned wasRecord true, presented := x }
  | other => other

/-! ### Requests -/

/-- 08 R138: a request that reaches window decode: the bridge is out of hard reset, the request is well formed and outside the
aperture, no live entry has its key, and, for a READ, no reclaim record has it. -/
def State.ReachesDecode (s : State) (q : TrunkRequest) : Prop :=
  s.port.held = false ∧ q.malformed = false ∧ s.inAperture q.address = false ∧ (∀ i : Slot, s.liveKey i ≠ some q.key)
    ∧ (q.access.kind = .read → ∀ r ∈ s.reclaim.records, r.key ≠ q.key)

/-- 08 R138: a request that reaches admission in window w: it decodes to w, its requester is permitted and w is not fenced. -/
def State.ReachesAdmission (s : State) (q : TrunkRequest) (w : WindowNo) : Prop :=
  s.ReachesDecode q ∧ (s.window.active.get w).HoldsByte q.address.toNat
    ∧ (s.window.active.get w).permission.getLsbD q.requester.val = true ∧ s.fenced w = false

/-- 01 R19, R3: the route of a request under active record w and the current epoch. -/
def State.routeOf (s : State) (w : WindowNo) (a : Word) : Route :=
  let r := s.window.active.get w
  let k := (a.toNat - r.trunkBase.toNat) / 4
  { window := w, epoch := s.window.epoch, select := r.route.extractLsb' 24 3,
    start := BitVec.ofNat 24 (r.branchBase.toNat + if r.laneModeBits = 1 then 2 * k else k),
    laneMode := if r.laneModeBits = 1 then .paired else .narrow,
    readClass := if r.readClassBits = 1 then .sensitive else .plain,
    limit := r.policy.extractLsb' 0 12, reissueCount := r.policy.extractLsb' 16 3,
    finalAction := if r.finalActionBits = 1 then .fence else .skip, fill := r.fill }

/-- 04 R67, 10 R163, R164: the branch engine with a reference appended at the tail of the list; the idle timer stops, and a PARKED
Branch enters WAKING with its warm-up timer running and no mark. -/
def State.branchWith (s : State) (ref : Ref) : BranchEngine :=
  let b := { s.branch with issueOrder := s.branch.issueOrder ++ [ref], idleTimer := none }
  if s.branch.power = .parked then
    { b with power := .waking, warmUpTimer := some (16 * s.mgmt.warmUp.toNat), parkAfterWake := false }
  else b

/-! ### Words of the aperture -/

/-- A field of a word: its lowest bit, its width and its value. -/
abbrev BitField := Nat × Nat × Nat

/-- 11, introduction: the word with the given fields, each value in its bits and every other bit zero. -/
def packed (fields : List BitField) : Word :=
  BitVec.ofNat 32 (fields.map fun f => 2 ^ f.1 * (f.2.2 % 2 ^ f.2.1)).sum

/-- 11 11.7: the encodings of the fields the views show, beside the kinds, fault codes and reasons. -/
def EncodingTable : Prop :=
  ([LaneMode.narrow, .paired].map LaneMode.code = [0, 1]) ∧ ([ReadClass.plain, .sensitive].map ReadClass.code = [0, 1])
    ∧ ([FinalAction.skip, .fence].map FinalAction.code = [0, 1])
    ∧ (∀ (r : Result) (hold : Option Nat),
        [Phase.queued, .active, .ready r hold, .cancelled].map Phase.code = [1, 2, 3, 4])
    ∧ (∀ c : FaultCode, [Status.ok, .filled, .fault c].map Status.code = [1, 2, 3])
    ∧ ([PowerState.running, .parking, .parked, .waking].map PowerState.code = [0, 1, 2, 3])
    ∧ ([EngineState.off, .running, .stalled].map EngineState.code = [0, 1, 2])
    ∧ ([StallReason.none, .recordFault, .recordWaitLimit, .signalFault, .signalWaitLimit].map StallReason.code = [0, 1, 2, 3, 4])
    ∧ (∀ a b : Bool, [FlightKind.record, .signal, .abandoned a b].map FlightKind.code = [1, 2, 3])
    ∧ ([ResetCause.powerOn, .resetPin, .command].map ResetCause.code = [1, 2, 3])
    ∧ ([ResultOutcome.none, .done, .refused].map ResultOutcome.code = [0, 1, 2])
    ∧ ([Command.commit, .revert, .unfence, .flush, .reclaimPop, .reclaimClear, .noticeStart, .noticeStop, .park, .wake, .branchAbort,
          .timeSet, .bridgeReset].map (fun c => Origin.code (.command c))
        = [0x01, 0x02, 0x03, 0x04, 0x05, 0x06, 0x07, 0x08, 0x09, 0x0A, 0x0B, 0x0C, 0x0D])
    ∧ ([Origin.none, .settingWrite, .noticeWrite, .unknownCommand].map Origin.code = [0x00, 0x10, 0x11, 0x12])

/-! ### Ends of items -/

/-- 02 R35: the hold timer of an entry that becomes READY now. -/
def State.holdNow (s : State) : Option Nat :=
  if s.mgmt.holdLimit = 0 then none else some (16 * s.mgmt.holdLimit.toNat)

/-- 04 R84, 10 R162, R164: a busy engine left with no item and an empty list becomes idle: PARKING becomes PARKED, and in RUNNING the
idle timer starts when the auto-park interval is nonzero. -/
def State.afterEnd (s : State) : State :=
  if s.branch.issueOrder = [] then
    match s.branch.power with
    | .parking => { s with branch.power := .parked }
    | .running =>
      { s with
        branch.idleTimer := if s.mgmt.autoPark = 0 then none else some (1000 * s.mgmt.autoPark.toNat) }
    | .parked | .waking => s
  else s

/-- 04 R79, 02 R35: the ACTIVE entry of a slot becomes READY with a result and no item is ACTIVE. -/
def State.entryReady (s : State) (i : Slot) (e : Entry) (status : Status) (data : List Word) : State :=
  { s with
    slots := s.slots.set i (some { e with phase := .ready { status := status, data := data } s.holdNow })
    branch.active := none }

/-- 04 R79, 02 R42: the slot of a CANCELLED entry becomes FREE and no item is ACTIVE. -/
def State.slotFreed (s : State) (i : Slot) : State := { s with slots := s.slots.set i none, branch.active := none }

/-- 04 R79, 03 R56: the draining write leaves the post queue and no item is ACTIVE. -/
def State.postLeft (s : State) : State := { s with posts := s.posts.tail, branch.active := none }

/-- 04 R70: an item with one cycle of its list outstanding is ACTIVE under a reference. -/
def State.OnBranch (s : State) (ref : Ref) (p : Progress) (c : Cycle) : Prop :=
  s.branch.active = some p ∧ p.item = ref ∧ p.cycles[p.cyclesDone]? = some c

/-- 06 R106, R108: the record the reclaim log makes of a read, with its place after the records made before it in the same event. -/
def State.recordMade (s : State) (e : Entry) (data : List Word) (k : Nat) : ReclaimRecord :=
  { sequence := s.reclaim.nextSequence + BitVec.ofNat 16 k, requester := e.request.requester, window := e.route.window,
    epoch := e.route.epoch, address := e.request.address, masks := e.request.access.masks, timeTag := s.mgmt.timeBase,
    data := data }

/-- 02 R38: the reads a FLUSH or a soft reset hands to the reclaim log, in ascending slot order. -/
def State.undelivered (s : State) : List (Entry × List Word) :=
  (List.finRange 8).filterMap fun i =>
    (s.slots.get i).bind fun e =>
      match e.phase with
      | .ready r _ =>
        if e.request.access.kind = .read ∧ e.route.readClass = .sensitive ∧ r.status = .ok then some (e, r.data) else none
      | _ => none

/-- 06 R108: the log's room for further records. -/
def State.room (s : State) : Nat := 8 - s.reclaim.records.length

/-- 06 R108: the log after several reads are handed over in one event. -/
def State.logWith (s : State) (reads : List (Entry × List Word)) : ReclaimLog :=
  let made := (reads.take s.room).zipIdx.map fun p => s.recordMade p.1.1 p.1.2 p.2
  { records := s.reclaim.records ++ made, nextSequence := s.reclaim.nextSequence + BitVec.ofNat 16 made.length }

end Sys2Proof.Machine
end

