-- ==== Sys2Proof/Certificates/Slice0/Obligations.lean ====
section
/-! DEFINITION. The statements for the provers. Each docstring names the rule of spec/ a statement comes from; OBLIGATIONS.json lists
them. -/

section

open Sys2Proof Sys2Proof.Machine

/-! ### The step and the queue -/

/-- The block rule: a step takes the command at the front of the queue and runs exec on it with the queue's rest. -/
def Obligations.StepTakesFrontCommand : Prop :=
  ∀ (s : State) (c : Instr) (rest : List Instr), s.pending = c :: rest → step s = exec c { s with pending := rest }

/-- 08 R137, 09 R151: nothing stops the bridge. Every command, in every state, answers a next state; the queue is the step's. -/
def Obligations.EveryCommandAnswersANextState : Prop :=
  ∀ (c : Instr) (s : State), ∃ t : State, exec c s = .next t ∧ t.pending = s.pending

/-! ### Reset -/

/-- The state after reset meets every law the steps keep. -/
def Obligations.ResetMeetsEveryLaw : Prop :=
  State.reset.UniqueLiveKeys ∧ State.reset.WithinQuota ∧ State.reset.WithinCapacity ∧ State.reset.SettingsLegal
    ∧ State.reset.ItemsTracked ∧ State.reset.ProgressSound ∧ State.reset.FencedWindowsQuiet ∧ State.reset.WindowsSound
    ∧ State.reset.PowerSound ∧ State.reset.RingSafe ∧ State.reset.EngineSound

/-- 01 R22, 02 R46, 03 R64, 04 R87, 06 R117, 07 R135, 09 R148, R158, R160, 10 R161: HARD_RESET and its release, from any state. While the
reset pin holds the bridge a request is answered WAIT (08 R147). -/
def Obligations.HardResetAndRelease : Prop :=
  ∀ (s : State) (cause : HardResetCause) (strap : BitVec 4),
    ∃ t u : State, exec (.hardReset cause) s = .next t ∧ exec (.hardResetRelease strap) t = .next u
      ∧ t.port.held = true ∧ u.port.held = false ∧ u.mgmt.strap = strap
      ∧ (∀ q : TrunkRequest, exec (.trunkRequest q) t = .next { t with port.answer := some .wait })
      ∧ (∀ w : WindowNo, ∀ k : Fin 8, (u.window.shadow.get w).word k = 0 ∧ (u.window.active.get w).word k = 0)
      ∧ u.window.epoch = 0 ∧ u.window.fences = 0 ∧ (∀ i : Slot, u.slots.get i = none) ∧ u.posts = []
      ∧ u.branch.issueOrder = [] ∧ u.branch.active = none ∧ u.branch.power = .running ∧ u.branch.parkAfterWake = false
      ∧ u.branch.warmUpTimer = none ∧ u.branch.idleTimer = none
      ∧ u.reclaim.records = [] ∧ u.reclaim.nextSequence = 0
      ∧ u.notice.state = .off ∧ u.notice.stallReason = .none ∧ u.notice.ringBase = 0 ∧ u.notice.ringOrder = 0
      ∧ u.notice.signalAddress = 0 ∧ u.notice.signalValue = 0 ∧ u.notice.signalEnable = false ∧ u.notice.ownRequester = 0
      ∧ u.notice.producer = 0 ∧ u.notice.consumer = 0 ∧ u.notice.backlog = [] ∧ u.notice.nextSequence = 0
      ∧ u.notice.signalArmed = false ∧ u.notice.halfArmed = false ∧ u.notice.waitCount = 0 ∧ u.notice.flight = none
      ∧ u.mgmt.quota = 2 ∧ u.mgmt.holdLimit = 1024 ∧ u.mgmt.writeMask = 0xFFFF ∧ u.mgmt.warmUp = 4 ∧ u.mgmt.autoPark = 0
      ∧ u.mgmt.timeBase = 0 ∧ u.mgmt.check = 0 ∧ u.mgmt.stage = 0
      ∧ u.mgmt.result = { origin := .none, requester := 0, outcome := .none, reason := .none, value := 0, serial := 0 }
      ∧ u.mgmt.resetCause = (match cause with | .powerOn => .powerOn | .resetPin => .resetPin)
      ∧ u.pending = s.pending

/-! ### Laws every step keeps -/

/-- 02 R25. -/
def Obligations.StepKeepsUniqueLiveKeys : Prop :=
  ∀ s t : State, s.UniqueLiveKeys → step s = .next t → t.UniqueLiveKeys

/-- 02 R26. -/
def Obligations.StepKeepsQuota : Prop := ∀ s t : State, s.WithinQuota → step s = .next t → t.WithinQuota

/-- 03 R48, 06 R106, 07 R123: every step keeps the capacities. 09 R154, R155, 07 R122: and the settings and the configuration in range. -/
def Obligations.StepKeepsCapacitiesAndRanges : Prop :=
  ∀ s t : State, step s = .next t → (s.WithinCapacity → t.WithinCapacity) ∧ (s.SettingsLegal → t.SettingsLegal)

/-- 04 R66, 03 R52. -/
def Obligations.StepKeepsItemsTracked : Prop := ∀ s t : State, s.ItemsTracked → step s = .next t → t.ItemsTracked

/-- 04 R70: the ACTIVE item always has a cycle of its own list outstanding, within its allowance. -/
def Obligations.StepKeepsProgressSound : Prop :=
  ∀ s t : State, s.ItemsTracked → s.ProgressSound → step s = .next t → t.ProgressSound

/-- 05 R97: while the flag stays set, the list holds no item of window w and the current epoch. -/
def Obligations.StepKeepsFencedWindowsQuiet : Prop :=
  ∀ s t : State, s.FencedWindowsQuiet → step s = .next t → t.FencedWindowsQuiet

/-- 01 R15: the law of the device on the placement of the valid windows of the active table. -/
def Obligations.StepKeepsWindowsSound : Prop :=
  ∀ s t : State, s.EngineSound → s.WindowsSound → step s = .next t → t.WindowsSound

/-- 10 R161 to R164. -/
def Obligations.StepKeepsPowerSound : Prop := ∀ s t : State, s.PowerSound → step s = .next t → t.PowerSound

/-- 07 R124, R126: the engine's states, and occupancy within the ring while RUNNING or STALLED. -/
def Obligations.StepKeepsNoticeEngineSound : Prop :=
  ∀ s t : State, s.EngineSound → s.RingSafe → step s = .next t → t.EngineSound ∧ t.RingSafe

/-- 04 R66: the list holds at most 24 references. 04 R72: the cycle list of an admitted item holds 1 to 16 cycles, each with a strobe
on. 05 R105: the attempts of an item that has begun, its cycles done and reissues used together, stay below cycles plus allowance, and
no attempt outlives its limit: in a step that leaves the item ACTIVE no more time passes than its handshake timer has left, and the
timer falls by it or starts again at the limit for one attempt more. -/
def Obligations.ListsStayWithinTheirBounds : Prop :=
  (∀ s : State, s.ItemsTracked → s.WithinCapacity → s.branch.issueOrder.length ≤ 24)
    ∧ (∀ it : Item, it.Formed →
        let cycles := cycleList it.kind it.route it.request.access.laneWords
        1 ≤ cycles.length ∧ cycles.length ≤ 16 ∧ ∀ c ∈ cycles, c.lowStrobe = true ∨ c.highStrobe = true)
    ∧ (∀ s : State, s.ProgressSound → ∀ p ∈ s.branch.active, ∃ it ∈ s.activeItem p.item,
        p.cyclesDone + p.reissuesUsed < p.cycles.length + it.route.reissueCount.toNat)
    ∧ ∀ (s t : State) (p p' : Progress) (left : Nat), s.ItemsTracked → s.ProgressSound → step s = .next t →
        s.branch.active = some p → p.timer = some left → t.branch.active = some p' →
          p'.item = p.item ∧ p'.cycles = p.cycles
            ∧ ∃ passed : Nat, passed ≤ left
                ∧ (t.mgmt.timeBase = s.mgmt.timeBase + BitVec.ofNat 32 passed
                    ∨ (passed = 0 ∧ t.mgmt.result.origin = .command .timeSet
                        ∧ t.mgmt.result.serial = s.mgmt.result.serial + 1))
                ∧ ((p'.cyclesDone = p.cyclesDone ∧ p'.reissuesUsed = p.reissuesUsed ∧ p'.timer = some (left - passed))
                    ∨ (passed = 0 ∧ p'.cyclesDone + p'.reissuesUsed = p.cyclesDone + p.reissuesUsed + 1
                        ∧ ∃ it ∈ s.activeItem p.item, p'.timer = some it.route.limit.toNat))

/-! ### What only some events change -/

/-- 01 R8, R9: in a step the active table and the epoch stay as they were, or the shadow table of before the step is installed and the
epoch rises by one, with the result of a COMMIT that was DONE, or the bridge enters hard reset. -/
def Obligations.OnlyCommitChangesTheActiveTable : Prop :=
  ∀ s t : State, step s = .next t →
    (t.window.active = s.window.active ∧ t.window.epoch = s.window.epoch)
      ∨ (t.window.active = s.window.shadow ∧ t.window.epoch = s.window.epoch + 1 ∧ t.window.fences = 0
          ∧ t.mgmt.result.origin = .command .commit ∧ t.mgmt.result.outcome = .done
          ∧ t.mgmt.result.serial = s.mgmt.result.serial + 1)
      ∨ (t.port.held = true ∧ t.window.epoch = 0 ∧ ∀ w : WindowNo, (t.window.active.get w).valid = false)

/-- 01 R20: a fence flag is cleared only by UNFENCE of that window, a successful COMMIT, or a reset. 01 R21: it is set only by the end of
an ACTIVE item whose snapshot names the window, the current epoch and final action FENCE. -/
def Obligations.FenceFlagsChangeByRule : Prop :=
  ∀ (s t : State) (w : WindowNo), step s = .next t →
    (s.fenced w = true → t.fenced w = false →
      t.port.held = true
        ∨ (t.mgmt.result.outcome = .done ∧ t.mgmt.result.serial = s.mgmt.result.serial + 1
            ∧ (t.mgmt.result.origin = .command .commit ∨ t.mgmt.result.origin = .command .bridgeReset
                ∨ (t.mgmt.result.origin = .command .unfence ∧ t.mgmt.result.value.toNat = w.val))))
      ∧ (s.fenced w = false → t.fenced w = true →
          t.branch.active = none ∧ ∃ p ∈ s.branch.active, ∃ it ∈ s.activeItem p.item,
            it.route.window = w ∧ it.route.epoch = s.window.epoch ∧ it.route.finalAction = .fence)

/-- 07 R122: outside OFF no step changes the notice configuration but a hard reset, and in OFF none but that and an accepted write of a
configuration word; 09 R154: no step changes a setting but an accepted settings write or a hard reset. -/
def Obligations.ConfigurationChangesByRule : Prop :=
  ∀ s t : State, step s = .next t → t.port.held = false →
    (s.notice.state ≠ .off →
      t.notice.ringBase = s.notice.ringBase ∧ t.notice.ringOrder = s.notice.ringOrder
        ∧ t.notice.signalAddress = s.notice.signalAddress ∧ t.notice.signalValue = s.notice.signalValue
        ∧ t.notice.signalEnable = s.notice.signalEnable ∧ t.notice.ownRequester = s.notice.ownRequester)
      ∧ ((t.notice.ringBase ≠ s.notice.ringBase ∨ t.notice.ringOrder ≠ s.notice.ringOrder
            ∨ t.notice.signalAddress ≠ s.notice.signalAddress ∨ t.notice.signalValue ≠ s.notice.signalValue
            ∨ t.notice.signalEnable ≠ s.notice.signalEnable ∨ t.notice.ownRequester ≠ s.notice.ownRequester) →
          t.mgmt.result.origin = .noticeWrite ∧ t.mgmt.result.outcome = .done
            ∧ t.mgmt.result.serial = s.mgmt.result.serial + 1)
      ∧ ((t.mgmt.quota ≠ s.mgmt.quota ∨ t.mgmt.holdLimit ≠ s.mgmt.holdLimit ∨ t.mgmt.writeMask ≠ s.mgmt.writeMask
            ∨ t.mgmt.warmUp ≠ s.mgmt.warmUp ∨ t.mgmt.autoPark ≠ s.mgmt.autoPark) →
          t.mgmt.result.origin = .settingWrite ∧ t.mgmt.result.outcome = .done
            ∧ t.mgmt.result.serial = s.mgmt.result.serial + 1)

/-- 06 R107: records join only at the tail, each carrying the next number; removal never reorders the records that remain; the number is
not changed by anything else but hard reset. -/
def Obligations.ReclaimRecordsKeepTheirOrder : Prop :=
  ∀ s t : State, step s = .next t →
    (t.port.held = true ∧ t.reclaim.records = [] ∧ t.reclaim.nextSequence = 0)
      ∨ ∃ kept made : List ReclaimRecord, t.reclaim.records = kept ++ made ∧ kept.Sublist s.reclaim.records
          ∧ t.reclaim.nextSequence = s.reclaim.nextSequence + BitVec.ofNat 16 made.length
          ∧ made.map (·.sequence)
              = (List.range made.length).map (fun k => s.reclaim.nextSequence + BitVec.ofNat 16 k)

/-- 03 R52, 04 R67, R68: writes and references join only at the tail, and those that remain keep their relative order. -/
def Obligations.PostsAndReferencesKeepTheirOrder : Prop :=
  ∀ s t : State, step s = .next t →
    (t.posts.Sublist s.posts ∨ ∃ p : PostedWrite, t.posts = s.posts ++ [p])
      ∧ (t.branch.issueOrder.Sublist s.branch.issueOrder ∨ ∃ r : Ref, t.branch.issueOrder = s.branch.issueOrder ++ [r])

/-- 02 R27, 06 R110: a result is delivered only to a request from the requester that was admitted for it. A Trunk request outside the
aperture leaves every entry and every reclaim record of every other requester as it is. -/
def Obligations.OnlyTheAdmittedRequesterIsServed : Prop :=
  ∀ (s : State) (q : TrunkRequest), s.inAperture q.address = false →
    ∃ t : State, exec (.trunkRequest q) s = .next t
      ∧ (∀ i : Slot, ∀ e ∈ s.slots.get i, e.request.requester ≠ q.requester → t.slots.get i = some e)
      ∧ (t.reclaim.records.filter fun r => r.requester != q.requester)
          = s.reclaim.records.filter fun r => r.requester != q.requester

/-- 08 R137: a FAULT given by a check of steps 1, 2 and 5 to 8 changes no state, but for the ACCESS_DENIED notice of step 7. -/
def Obligations.CheckFaultsChangeNothing : Prop :=
  ∀ (s : State) (q : TrunkRequest) (code : FaultCode),
    (s.inAperture q.address = true ∨ ∀ i : Slot, s.liveKey i ≠ some q.key) →
      ∀ t : State, exec (.trunkRequest q) s = .next t → t.port.answer = some (.fault code) →
        t = { s with port.answer := some (.fault code) }
          ∨ (code = .denied ∧ ∃ w : WindowNo, (s.window.active.get w).permission.getLsbD q.requester.val = false
              ∧ t =
                { s.notified .accessDenied (some w) (some q.requester) s.window.epoch q.address
                    (BitVec.ofNat 16 (q.access.count % 16 + 256 * Kind.code q.access.kind)) with
                  port.answer := some (.fault .denied) })

/-! ### Answers and the aperture -/

/-- 08 R137, R147: each request is answered when presented, and while the reset pin holds the bridge it is answered WAIT and nothing
changes. A refused aperture access is such a request. -/
def Obligations.EveryRequestIsAnswered : Prop :=
  ∀ (s : State) (q : TrunkRequest),
    (∃ t : State, ∃ a : Answer,
        exec (.trunkRequest q) { s with port.answer := none } = .next t ∧ t.port.answer = some a)
      ∧ (s.port.held = true →
          exec (.trunkRequest q) s = .next { s with port.answer := some .wait }
            ∧ exec (.apertureAccessRefused q) s = .next { s with port.answer := some .wait })

/-- 08 R140, R141, R147: an aperture write while the reset pin holds the bridge is answered WAIT, and one from a requester whose bit is
clear in the write mask FAULT(DENIED); an access of the wrong shape is answered FAULT(FORM). None of them changes anything, and
APERTURE_ACCESS_REFUSED and TRUNK_REQUEST say the same. -/
def Obligations.TheApertureRefusesAnAccess : Prop :=
  (∀ (s : State) (c : Instr) (r : Requester), c.wellFormed = true → commandWriter c = some r →
      (s.port.held = true → exec c s = .next { s with port.answer := some .wait })
        ∧ (s.port.held = false → s.mgmt.writeMask.getLsbD r.val = false →
            exec c s = .next { s with port.answer := some (.fault .denied) }))
    ∧ ∀ (s : State) (q : TrunkRequest), s.port.held = false → s.inAperture q.address = true →
        ((q.malformed = true ∨ q.access.masks ≠ [0xF]) →
            exec (.apertureAccessRefused q) s = .next { s with port.answer := some (.fault .form) }
              ∧ exec (.trunkRequest q) s = .next { s with port.answer := some (.fault .form) })
          ∧ (q.malformed = false → q.access.masks = [0xF] → q.access.kind = .write →
              s.mgmt.writeMask.getLsbD q.requester.val = false →
                exec (.apertureAccessRefused q) s = .next { s with port.answer := some (.fault .denied) }
                  ∧ exec (.trunkRequest q) s = .next { s with port.answer := some (.fault .denied) })

/-- 08 R136, R140, 11 11.2: a single-word, full-mask WRITE presented at an aperture address is the APERTURE_WRITE of its offset, and at
the words with a row of their own it is that row. 09 R150, 11 R167: a write to the COMMAND word is the command its code names, with bits
31:16 ignored and the argument for UNFENCE alone. -/
def Obligations.ApertureWritesAreTheirRows : Prop :=
  ∀ (s : State) (r : Requester) (v : Word),
    (∀ offset : BitVec 12,
        exec
            (.trunkRequest
              { requester := r,
                address := BitVec.ofNat 32 (s.mgmt.strap.toNat * 0x10000000 + 0x0FFF0000 + offset.toNat),
                access := .write [{ mask := 0xF, data := v }] }) s
          = exec (.apertureWrite r offset v) s)
      ∧ exec (.apertureWrite r 0x100 v) s = exec (.requesterQuotaWrite r v) s
      ∧ exec (.apertureWrite r 0x104 v) s = exec (.holdLimitWrite r v) s
      ∧ exec (.apertureWrite r 0x108 v) s = exec (.managementWriteMaskWrite r v) s
      ∧ exec (.apertureWrite r 0x10C v) s = exec (.warmUpWrite r v) s
      ∧ exec (.apertureWrite r 0x110 v) s = exec (.autoParkIntervalWrite r v) s
      ∧ exec (.apertureWrite r 0x300 v) s = exec (.noticeConfigurationWrite r .ringBase v) s
      ∧ exec (.apertureWrite r 0x304 v) s = exec (.noticeConfigurationWrite r .ringOrder v) s
      ∧ exec (.apertureWrite r 0x308 v) s = exec (.noticeConfigurationWrite r .signalAddress v) s
      ∧ exec (.apertureWrite r 0x30C v) s = exec (.noticeConfigurationWrite r .signalValue v) s
      ∧ exec (.apertureWrite r 0x310 v) s = exec (.noticeConfigurationWrite r .signalEnable v) s
      ∧ exec (.apertureWrite r 0x314 v) s = exec (.noticeConfigurationWrite r .ownRequester v) s
      ∧ exec (.apertureWrite r 0x31C v) s = exec (.consumerCounterWrite r v) s
      ∧ ∀ write : Instr, write = .apertureWrite r 0x200 v → ∀ code : Nat, code = v.toNat % 256 →
          (code = 0x01 → exec write s = exec (.commit r) s)
            ∧ (code = 0x02 → exec write s = exec (.revert r) s)
            ∧ (code = 0x03 → exec write s = exec (.unfence r (BitVec.ofNat 8 (v.toNat / 256))) s)
            ∧ (code = 0x04 → exec write s = exec (.flush r) s)
            ∧ (code = 0x05 → exec write s = exec (.reclaimPop r) s)
            ∧ (code = 0x06 → exec write s = exec (.reclaimClear r) s)
            ∧ (code = 0x07 → exec write s = exec (.noticeStart r) s)
            ∧ (code = 0x08 → exec write s = exec (.noticeStop r) s)
            ∧ (code = 0x09 → exec write s = exec (.park r) s)
            ∧ (code = 0x0A → exec write s = exec (.wake r) s)
            ∧ (code = 0x0B → exec write s = exec (.branchAbort r) s)
            ∧ (code = 0x0C → exec write s = exec (.timeSet r) s)
            ∧ (code = 0x0D → exec write s = exec (.bridgeReset r) s)
            ∧ (code = 0 ∨ 0x0D < code → exec write s = exec (.unknownCommand r (BitVec.ofNat 8 code)) s)

/-- 01 R8, 09 R157, 11 R167: an accepted write to CHECK, STAGE or a shadow word stores the written word as it stands, and one to the
eighth word of a shadow record, to a read-only word or to an undefined offset changes nothing; none of them sets the result. -/
def Obligations.PlainApertureWrites : Prop :=
  ∀ (s : State) (r : Requester) (v : Word), s.accepts r →
    exec (.apertureWrite r 0x204 v) s = .next { s with mgmt.check := v, port.answer := some (.done []) }
      ∧ exec (.apertureWrite r 0x208 v) s = .next { s with mgmt.stage := v, port.answer := some (.done []) }
      ∧ (∀ (w : WindowNo) (k : Fin 7), ∃ table : Vector WindowRecord 16,
          exec (.apertureWrite r (BitVec.ofNat 12 (0x400 + 32 * w.val + 4 * k.val)) v) s
              = .next { s with window.shadow := table, port.answer := some (.done []) }
            ∧ (table.get w).word k.castSucc = v
            ∧ ∀ (x : WindowNo) (j : Fin 7), x ≠ w ∨ j ≠ k →
                (table.get x).word j.castSucc = (s.window.shadow.get x).word j.castSucc)
      ∧ ∀ offset : BitVec 12, offset.toNat % 4 = 0 →
          (offset.toNat < 0x100 ∨ (0x110 < offset.toNat ∧ offset.toNat < 0x200)
              ∨ (0x208 < offset.toNat ∧ offset.toNat < 0x300) ∨ offset.toNat = 0x318 ∨ (0x31C < offset.toNat ∧ offset.toNat < 0x400)
              ∨ (0x400 ≤ offset.toNat ∧ offset.toNat < 0x600 ∧ offset.toNat % 32 = 28) ∨ 0x600 ≤ offset.toNat) →
            exec (.apertureWrite r offset v) s = .next { s with port.answer := some (.done []) }

/-- 08 R140, 01 R8: a single-word READ of the aperture is accepted from every requester, answered DONE with one word, and changes nothing.
The word is that of 11 11.2 to 11.5, field by field: 09 R149, R151, R154, R157 for the management words, 07 R132 for the notice words,
01 R8 for the tables, 02 R47 for the pending snapshot, 06 R116 for the reclaim head, 04 R85 and 03 R62 for the Branch and the post
queue; every other bit and every other word is zero (11 R167). The encodings are those of 11.7. MODEL'S READING: the WAIT repeat count
stands in the engine status with no write in flight too (log 17). -/
def Obligations.ApertureReadsChangeNothing : Prop :=
  EncodingTable
    ∧ ∀ (s : State) (r : Requester), s.port.held = false →
        let read (offset : Nat) : Instr :=
          .trunkRequest
            { requester := r, address := BitVec.ofNat 32 (s.mgmt.strap.toNat * 0x10000000 + 0x0FFF0000 + offset),
              access := .read [0xF] }
        let shows (offset : Nat) (fields : List BitField) : Prop :=
          exec (read offset) s = .next { s with port.answer := some (.done [packed fields]) }
        let result := s.mgmt.result
        let n := s.notice
        let b := s.branch
        let maskFields (masks : List Lanes) : List BitField := masks.zipIdx.map fun m => (4 * m.2, 4, m.1.toNat)
        -- the identity, the settings and the command words
        (shows 0x000 [(0, 8, 1), (16, 16, 0x3140)] ∧ shows 0x004 [(0, 2, ResetCause.code s.mgmt.resetCause)]
            ∧ shows 0x008
                [ (0, 2, EngineState.code n.state), (4, 2, PowerState.code b.power),
                  (8, 4, ((List.finRange 8).filter fun i => (s.slots.get i).isSome).length), (12, 5, s.posts.length),
                  (20, 4, s.reclaim.records.length), (24, 1, if s.window.fences = 0 then 0 else 1), (28, 4, s.mgmt.strap.toNat) ]
            ∧ shows 0x00C [(0, 32, s.mgmt.timeBase.toNat)] ∧ shows 0x100 [(0, 3, s.mgmt.quota.toNat)]
            ∧ shows 0x104 [(0, 16, s.mgmt.holdLimit.toNat)] ∧ shows 0x108 [(0, 16, s.mgmt.writeMask.toNat)]
            ∧ shows 0x10C [(0, 6, s.mgmt.warmUp.toNat)] ∧ shows 0x110 [(0, 8, s.mgmt.autoPark.toNat)] ∧ shows 0x200 []
            ∧ shows 0x204 [(0, 32, s.mgmt.check.toNat)] ∧ shows 0x208 [(0, 32, s.mgmt.stage.toNat)]
            ∧ shows 0x20C
                [ (0, 8, Origin.code result.origin), (8, 4, result.requester.val), (12, 2, ResultOutcome.code result.outcome),
                  (16, 4, Reason.code result.reason), (24, 8, result.serial.toNat) ]
            ∧ shows 0x210 [(0, 16, result.value.toNat)])
          -- the notice engine
          ∧ (shows 0x300 [(0, 32, n.ringBase.toNat)] ∧ shows 0x304 [(0, 4, n.ringOrder.toNat)]
              ∧ shows 0x308 [(0, 32, n.signalAddress.toNat)] ∧ shows 0x30C [(0, 32, n.signalValue.toNat)]
              ∧ shows 0x310 [(0, 1, n.signalEnable.toNat)] ∧ shows 0x314 [(0, 4, n.ownRequester.val)]
              ∧ shows 0x318 [(0, 16, n.producer.toNat)] ∧ shows 0x31C [(0, 16, n.consumer.toNat)]
              ∧ shows 0x320
                  [ (0, 2, EngineState.code n.state), (4, 3, StallReason.code n.stallReason), (8, 3, n.backlog.length),
                    (12, 1, n.signalArmed.toNat), (13, 1, n.halfArmed.toNat),
                    (16, 2, match n.flight with | none => 0 | some f => FlightKind.code f.kind), (24, 7, n.waitCount) ]
              ∧ shows 0x324 [(0, 16, n.nextSequence.toNat)])
          -- the window tables
          ∧ (∀ w : WindowNo,
              (∀ k : Fin 7,
                shows (0x400 + 32 * w.val + 4 * k.val) [(0, 32, ((s.window.shadow.get w).word k.castSucc).toNat)]
                  ∧ shows (0x600 + 32 * w.val + 4 * k.val) [(0, 32, ((s.window.active.get w).word k.castSucc).toNat)])
                ∧ shows (0x41C + 32 * w.val) []
                ∧ shows (0x61C + 32 * w.val)
                    [(0, 1, (s.fenced w).toNat), (8, 8, s.window.epoch.toNat), (16, 16, s.window.fences.toNat)])
          -- the pending snapshot
          ∧ (∀ i : Slot,
              let base := 0x800 + 64 * i.val
              (s.slots.get i = none → ∀ k : Fin 16, shows (base + 4 * k.val) [])
                ∧ ∀ e : Entry, s.slots.get i = some e →
                    let result : Result :=
                      match e.phase with
                      | .ready r _ => r
                      | _ => { status := .ok, data := [] }
                    let ready : Bool := match e.phase with | .ready .. => true | _ => false
                    let data : List Word :=
                      match e.request.access with
                      | .write words => words.map (·.data)
                      | .read _ => result.data
                    shows base
                        [ (0, 3, Phase.code e.phase), (3, 1, Kind.code e.request.access.kind), (4, 4, e.request.requester.val),
                          (8, 4, e.request.access.count), (12, 2, if ready then Status.code result.status else 0),
                          (16, 4, match result.status with | .fault c => FaultCode.code c | _ => 0),
                          (20, 3,
                            match b.active with
                            | some p =>
                              if p.item = .entry i ∧ (e.phase = .active ∨ e.phase = .cancelled) then p.reissuesUsed else 0
                            | none => 0),
                          (24, 5, if e.phase = .queued then (b.issueOrder.takeWhile (· != .entry i)).length + 1 else 0) ]
                      ∧ shows (base + 4) [(0, 32, e.request.address.toNat)]
                      ∧ shows (base + 8) (maskFields e.request.access.masks)
                      ∧ shows (base + 12) [(0, 32, (s.holdRemaining i).getD 0)]
                      ∧ shows (base + 16)
                          [ (0, 4, e.route.window.val), (8, 8, e.route.epoch.toNat), (16, 3, e.route.select.toNat),
                            (20, 1, LaneMode.code e.route.laneMode), (21, 1, ReadClass.code e.route.readClass),
                            (22, 1, FinalAction.code e.route.finalAction) ]
                      ∧ shows (base + 20) [(0, 24, e.route.start.toNat)]
                      ∧ shows (base + 24) [(0, 12, e.route.limit.toNat), (16, 3, e.route.reissueCount.toNat)]
                      ∧ shows (base + 28) [(0, 32, e.route.fill.toNat)]
                      ∧ ∀ j : Fin 8, shows (base + 32 + 4 * j.val) [(0, 32, (data.getD j.val 0).toNat)])
          -- the reclaim head
          ∧ (shows 0xA00 [(0, 4, s.reclaim.records.length), (16, 16, s.reclaim.nextSequence.toNat)]
              ∧ (s.reclaim.records = [] → ∀ k : Fin 13, shows (0xA04 + 4 * k.val) [])
              ∧ ∀ (x : ReclaimRecord) (rest : List ReclaimRecord), s.reclaim.records = x :: rest →
                  shows 0xA04
                      [(0, 16, x.sequence.toNat), (16, 4, x.requester.val), (20, 4, x.window.val), (24, 8, x.epoch.toNat)]
                    ∧ shows 0xA08 [(0, 32, x.address.toNat)] ∧ shows 0xA0C [(0, 4, x.masks.length)]
                    ∧ shows 0xA10 (maskFields x.masks) ∧ shows 0xA14 [(0, 32, x.timeTag.toNat)]
                    ∧ ∀ j : Fin 8, shows (0xA18 + 4 * j.val) [(0, 32, (x.data.getD j.val 0).toNat)])
          -- the Branch and the post queue
          ∧ (shows 0xB00
                [ (0, 2, PowerState.code b.power), (2, 1, b.parkAfterWake.toNat), (8, 5, b.issueOrder.length),
                  (16, 4, (b.issueOrder.filter (· != .posted)).length), (24, 5, (b.issueOrder.filter (· == .posted)).length) ]
              ∧ (b.active = none → shows 0xB04 [] ∧ shows 0xB08 [])
              ∧ (∀ p : Progress, b.active = some p →
                  shows 0xB04
                      [ (0, 2, if p.item = .posted then 2 else 1), (4, 3, match p.item with | .entry i => i.val | .posted => 0),
                        (8, 5, p.cycles.length), (16, 4, p.cyclesDone), (20, 3, p.reissuesUsed) ]
                    ∧ ∀ c : Cycle, p.cycles[p.cyclesDone]? = some c →
                        shows 0xB08
                          [ (0, 24, c.index.toNat), (24, 3, c.select.toNat), (28, 1, Kind.code c.kind),
                            (29, 1, c.lowStrobe.toNat), (30, 1, c.highStrobe.toNat) ])
              ∧ ((∀ p ∈ b.active, p.item ≠ .posted) → shows 0xB0C [(0, 5, s.posts.length)] ∧ shows 0xB10 [])
              ∧ ∀ (p : Progress) (x : PostedWrite) (rest : List PostedWrite), b.active = some p → p.item = .posted →
                  s.posts = x :: rest →
                    shows 0xB0C
                        [ (0, 5, s.posts.length), (8, 1, 1), (12, 4, p.cyclesDone), (16, 4, x.requester.val),
                          (20, 4, x.route.window.val), (24, 8, x.route.epoch.toNat) ]
                      ∧ shows 0xB10 [(0, 32, x.address.toNat)])
          -- the offsets of no table
          ∧ ∀ offset : Nat, offset % 4 = 0 →
              (0x00C < offset ∧ offset < 0x100) ∨ (0x110 < offset ∧ offset < 0x200) ∨ (0x210 < offset ∧ offset < 0x300)
                  ∨ (0x324 < offset ∧ offset < 0x400) ∨ (0xA34 < offset ∧ offset < 0xB00) ∨ (0xB10 < offset ∧ offset < 0x1000) →
                shows offset []

/-! ### Trunk requests -/

/-- 08 R139: the FORM check. -/
def Obligations.MalformedRequestIsAnsweredForm : Prop :=
  ∀ (s : State) (q : TrunkRequest), s.port.held = false →
    (q.access.count = 0 ∨ 8 < q.access.count ∨ q.address.toNat % 4 ≠ 0 ∨ 8 < q.address.toNat % 32 / 4 + q.access.count
        ∨ (1 < q.access.count ∧ ∃ m ∈ q.access.masks, m ≠ 0xF)) →
      exec (.trunkRequest q) s = .next { s with port.answer := some (.fault .form) }

/-- 02 R27, R28, R29: a request whose key equals a live entry's is answered from that entry, whatever the active table and the fence
flags: WAIT from a QUEUED or ACTIVE one, its result, with the slot FREE, from a READY one, and FAULT(CONFLICT), with the entry as it
was, for a WRITE whose data differs in a byte whose mask bit is set. -/
def Obligations.RequestIsAnsweredFromItsLiveEntry : Prop :=
  ∀ (s : State) (q : TrunkRequest) (i : Slot) (e : Entry), s.UniqueLiveKeys → s.port.held = false → q.malformed = false →
    s.inAperture q.address = false → s.slots.get i = some e → e.phase ≠ .cancelled → e.request.key = q.key →
      let differs : Prop :=
        q.access.kind = .write ∧ ∃ k j : Nat, j < 4 ∧ (q.access.masks.getD k 0).getLsbD j = true
          ∧ (q.access.data.getD k 0).extractLsb' (8 * j) 8 ≠ (e.request.access.data.getD k 0).extractLsb' (8 * j) 8
      (differs → exec (.trunkRequest q) s = .next { s with port.answer := some (.fault .conflict) })
        ∧ (¬differs → (e.phase = .queued ∨ e.phase = .active) →
            exec (.trunkRequest q) s = .next { s with port.answer := some .wait })
        ∧ (¬differs → ∀ (result : Result) (hold : Option Nat), e.phase = .ready result hold →
            exec (.trunkRequest q) s =
              .next
                { s with
                  slots := s.slots.set i none
                  port.answer :=
                    some (match result.status with
                      | .ok | .filled => .done result.data
                      | .fault code => .fault code) })

/-- 06 R110, R111, R112: a READ that matches no live entry and has the key of a reclaim record is answered from the oldest such record,
whatever the active table and the fence flags; the record leaves the log and LATE_DELIVERY is generated. -/
def Obligations.LateDeliveryAnswersFromTheOldestRecord : Prop :=
  ∀ (s : State) (q : TrunkRequest) (older newer : List ReclaimRecord) (r : ReclaimRecord), s.port.held = false →
    q.malformed = false → s.inAperture q.address = false → (∀ i : Slot, s.liveKey i ≠ some q.key) → q.access.kind = .read →
      s.reclaim.records = older ++ r :: newer → r.requester = q.requester → r.address = q.address → r.masks = q.access.masks →
        (∀ x ∈ older, ¬(x.requester = q.requester ∧ x.address = q.address ∧ x.masks = q.access.masks)) →
          exec (.trunkRequest q) s =
            .next
              { { s with reclaim.records := older ++ newer }.notified .lateDelivery (some r.window) (some r.requester)
                  s.window.epoch r.address r.sequence with
                port.answer := some (.done r.data) }

/-- 08 R142, R143, 01 R2, R20: window decode, permission and fence: NO_ROUTE where no valid window covers the address, DENIED with
ACCESS_DENIED where the requester's bit is clear, FENCED where the flag is set; a request that fits the FORM check never ends outside
its window. -/
def Obligations.WindowChecksInTheirOrder : Prop :=
  ∀ (s : State) (q : TrunkRequest), s.WindowsSound → s.ReachesDecode q →
    ((∀ w : WindowNo, ¬(s.window.active.get w).HoldsByte q.address.toNat) →
        exec (.trunkRequest q) s = .next { s with port.answer := some (.fault .noRoute) })
      ∧ ∀ w : WindowNo, (s.window.active.get w).HoldsByte q.address.toNat →
          (s.window.active.get w).HoldsByte (q.address.toNat + 4 * q.access.count - 1)
            ∧ ((s.window.active.get w).permission.getLsbD q.requester.val = false →
                exec (.trunkRequest q) s =
                  .next
                    { s.notified .accessDenied (some w) (some q.requester) s.window.epoch q.address
                        (BitVec.ofNat 16 (q.access.count + 256 * Kind.code q.access.kind)) with
                      port.answer := some (.fault .denied) })
            ∧ ((s.window.active.get w).permission.getLsbD q.requester.val = true → s.fenced w = true →
                exec (.trunkRequest q) s = .next { s with port.answer := some (.fault .fenced) })

/-- 02 R30, R31, R33, 01 R19, 04 R67, 10 R163: a READ, or a WRITE to a NONPOSTED window, with an effective lane takes the lowest FREE slot,
while one is FREE and the live count is below the quota, and is answered WAIT; else it is answered WAIT with nothing recorded. -/
def Obligations.DelayedAdmission : Prop :=
  ∀ (s : State) (q : TrunkRequest) (w : WindowNo), s.WindowsSound → s.ReachesAdmission q w →
    (∃ m ∈ q.access.masks, ∃ j : Nat, (j < 2 ∨ (j < 4 ∧ (s.window.active.get w).laneModeBits = 1)) ∧ m.getLsbD j = true) →
      (q.access.kind = .read ∨ (s.window.active.get w).writeModeBits = 1) →
        (∀ i : Slot, s.slots.get i = none → (∀ j : Slot, j < i → s.slots.get j ≠ none) →
            s.liveCount q.requester < s.mgmt.quota.toNat →
              exec (.trunkRequest q) s =
                .next
                  { s with
                    slots := s.slots.set i (some { request := q, route := s.routeOf w q.address, phase := .queued })
                    branch := s.branchWith (.entry i)
                    port.answer := some .wait })
          ∧ (((∀ i : Slot, s.slots.get i ≠ none) ∨ s.mgmt.quota.toNat ≤ s.liveCount q.requester) →
              exec (.trunkRequest q) s = .next { s with port.answer := some .wait })

/-- 03 R49, R50, 01 R19, 04 R67, 10 R163: a WRITE to a POSTED window with an effective lane joins the post queue at its tail and is
answered DONE while fewer than 16 writes are held, else it is answered WAIT with nothing recorded. -/
def Obligations.PostedAdmission : Prop :=
  ∀ (s : State) (q : TrunkRequest) (w : WindowNo) (words : List LaneWord), s.WindowsSound → s.ReachesAdmission q w →
    (∃ m ∈ q.access.masks, ∃ j : Nat, (j < 2 ∨ (j < 4 ∧ (s.window.active.get w).laneModeBits = 1)) ∧ m.getLsbD j = true) →
      q.access = .write words → (s.window.active.get w).writeModeBits = 0 →
        (s.posts.length < 16 →
            exec (.trunkRequest q) s =
              .next
                { s with
                  posts :=
                    s.posts
                      ++ [{ requester := q.requester, address := q.address, words := words,
                            route := s.routeOf w q.address }]
                  branch := s.branchWith .posted
                  port.answer := some (.done []) })
          ∧ (16 ≤ s.posts.length → exec (.trunkRequest q) s = .next { s with port.answer := some .wait })

/-- 01 R4, 02 R32, 03 R51: a request with no effective lane is answered DONE, a READ with every word zero, and nothing else changes,
whatever slots, quota and places are free. -/
def Obligations.NoEffectiveLaneIsAnsweredDone : Prop :=
  ∀ (s : State) (q : TrunkRequest) (w : WindowNo), s.WindowsSound → s.ReachesAdmission q w →
    (∀ m ∈ q.access.masks, ∀ j : Nat, j < 2 ∨ (j < 4 ∧ (s.window.active.get w).laneModeBits = 1) → m.getLsbD j = false) →
      exec (.trunkRequest q) s =
        .next
          { s with
            port.answer :=
              some (.done (match q.access with | .read masks => List.replicate masks.length 0 | .write _ => [])) }

/-! ### The branch engine -/

/-- 04 R69, R70, R74, 02 R34, 03 R54: the take of the head, an entry or a posted write, in RUNNING or PARKING with no item ACTIVE; and
no take in PARKED or WAKING, or while an item is ACTIVE, or from an empty list. -/
def Obligations.TakeHeadMakesTheHeadActive : Prop :=
  ∀ s : State,
    ((s.branch.power = .running ∨ s.branch.power = .parking) → s.branch.active = none →
        (∀ (i : Slot) (rest : List Ref) (e : Entry), s.branch.issueOrder = .entry i :: rest → s.slots.get i = some e →
            e.phase = .queued →
              exec .takeHead s =
                .next
                  { s with
                    slots := s.slots.set i (some { e with phase := .active })
                    branch.issueOrder := rest
                    branch.active :=
                      some
                        { item := .entry i, cycles := cycleList e.request.access.kind e.route e.request.access.laneWords,
                          cyclesDone := 0, reissuesUsed := 0, assembly := List.replicate e.request.access.count 0,
                          timer := if e.route.limit = 0 then none else some e.route.limit.toNat } })
          ∧ ∀ (rest : List Ref) (p : PostedWrite) (others : List PostedWrite), s.branch.issueOrder = .posted :: rest →
              s.posts = p :: others →
                exec .takeHead s =
                  .next
                    { s with
                      branch.issueOrder := rest
                      branch.active :=
                        some
                          { item := .posted, cycles := cycleList .write p.route p.words, cyclesDone := 0, reissuesUsed := 0,
                            assembly := List.replicate p.words.length 0,
                            timer := if p.route.limit = 0 then none else some p.route.limit.toNat } })
      ∧ (s.branch.power = .parked ∨ s.branch.power = .waking ∨ s.branch.active ≠ none ∨ s.branch.issueOrder = [] →
          exec .takeHead s = .next s)

/-- 04 R72, R73, 01 R3, R4: the cycle list. A NARROW word gives one half-word, a PAIRED word its low half then its high half, each at its
index with the strobes of its effective lanes and, for a WRITE, the bytes of its lanes; half-words with no strobe are left out. -/
def Obligations.CycleListFollowsTheLanes : Prop :=
  ∀ (kind : Kind) (route : Route) (words : List LaneWord),
    let half (k : Nat) (w : LaneWord) (low : Nat) (index : Nat) (upper : Bool) : List Cycle :=
      if w.mask.getLsbD low || w.mask.getLsbD (low + 1) then
        [{ kind := kind, select := route.select, index := route.start + BitVec.ofNat 24 index,
           lowStrobe := w.mask.getLsbD low, highStrobe := w.mask.getLsbD (low + 1),
           data := if kind = .read then none else some (w.data.extractLsb' (8 * low) 16), word := k, upper := upper }]
      else []
    (route.laneMode = .narrow →
        cycleList kind route words = (words.zipIdx.map fun p => half p.2 p.1 0 p.2 false).flatten)
      ∧ (route.laneMode = .paired →
          cycleList kind route words
            = (words.zipIdx.map fun p => half p.2 p.1 0 (2 * p.2) false ++ half p.2 p.1 2 (2 * p.2 + 1) true).flatten)

/-- 04 R75, R76, 05 R88: an ACK of a cycle that is not the item's last completes the cycle and issues the next, with its handshake timer;
for a READ the strobed bytes are placed in the word that gave the half-word, and every other byte stays. 05 R90, R91: an expiry with
reissues left presents the cycle again: reissues used rises by one and the timer starts again. An ACK after a reissue is taken for the
reissue (log 20). -/
def Obligations.AckOrReissueCarriesTheItemOn : Prop :=
  (∀ (s : State) (data : HalfWord) (ref : Ref) (p : Progress) (c : Cycle) (it : Item), s.OnBranch ref p c →
      s.activeItem ref = some it → p.cyclesDone + 1 < p.cycles.length →
        ∃ assembly : List Word,
          exec (.branchAck data) s =
              .next
                { s with
                  branch.active :=
                    some
                      { p with
                        cyclesDone := p.cyclesDone + 1, assembly := assembly,
                        timer := if it.route.limit = 0 then none else some it.route.limit.toNat } }
            ∧ assembly.length = p.assembly.length
            ∧ (c.kind = .write → assembly = p.assembly)
            ∧ (c.kind = .read → ∀ (k j : Nat), k < p.assembly.length → j < 4 →
                (assembly.getD k 0).extractLsb' (8 * j) 8 =
                  if k = c.word ∧ j / 2 = c.upper.toNat ∧ (if j % 2 = 0 then c.lowStrobe else c.highStrobe) = true then
                    data.extractLsb' (8 * (j % 2)) 8
                  else (p.assembly.getD k 0).extractLsb' (8 * j) 8))
    ∧ ∀ (s : State) (p : Progress) (c : Cycle) (it : Item), s.OnBranch p.item p c → s.activeItem p.item = some it →
        p.timer = some 0 → p.reissuesUsed < it.route.reissueCount.toNat →
          exec .handshakeLimitExpiry s =
            .next
              { s with
                branch.active :=
                  some
                    { p with
                      reissuesUsed := p.reissuesUsed + 1,
                      timer := if it.route.limit = 0 then none else some it.route.limit.toNat } }

/-- 04 R76, R79, R80, R81, 02 R35, R42, 03 R56: the ACK of the last cycle ends the item OK. An ACTIVE entry becomes READY, a READ with the
read assembly; a CANCELLED one leaves its slot FREE, its read reclaimed or discarded; a posted write leaves its queue. Reissues used are
reported by REISSUE_RECOVERED, before the disposal notice. -/
def Obligations.AckOfTheLastCycleEndsTheItemOk : Prop :=
  ∀ (s : State) (data : HalfWord) (p : Progress) (c : Cycle) (it : Item), s.OnBranch p.item p c →
    s.activeItem p.item = some it → p.cyclesDone + 1 = p.cycles.length →
      let recovered (t : State) : State :=
        if p.reissuesUsed = 0 then t
        else
          t.notified .reissueRecovered (some it.route.window) (some it.request.requester) it.route.epoch it.request.address
            (BitVec.ofNat 16 p.reissuesUsed)
      let words : List Word := if c.kind = .read then p.assembly.modify c.word (placeRead c data) else p.assembly
      let result : List Word := if it.request.access.kind = .read then words else []
      (∀ (i : Slot) (e : Entry), p.item = .entry i → s.slots.get i = some e → e.phase = .active →
          exec (.branchAck data) s = .next (State.afterEnd (recovered (s.entryReady i e .ok result))))
        ∧ (∀ (i : Slot) (e : Entry), p.item = .entry i → s.slots.get i = some e → e.phase = .cancelled →
            (e.request.access.kind = .read → e.route.readClass = .sensitive → s.reclaim.records.length < 8 →
                exec (.branchAck data) s =
                  .next
                    (State.afterEnd
                      ({ recovered (s.slotFreed i) with reclaim := s.logWith [(e, words)] }.notified .readReclaimed
                        (some e.route.window) (some e.request.requester) s.window.epoch e.request.address
                        s.reclaim.nextSequence)))
              ∧ (e.request.access.kind = .read → e.route.readClass = .sensitive → 8 ≤ s.reclaim.records.length →
                  exec (.branchAck data) s =
                    .next
                      (State.afterEnd
                        ((recovered (s.slotFreed i)).notified .reclaimOverflow (some e.route.window) (some e.request.requester)
                          s.window.epoch e.request.address (BitVec.ofNat 16 e.request.access.count))))
              ∧ (e.request.access.kind = .write ∨ e.route.readClass = .plain →
                  exec (.branchAck data) s =
                    .next
                      (State.afterEnd
                        ((recovered (s.slotFreed i)).notified .resultDiscarded (some e.route.window) (some e.request.requester)
                          s.window.epoch e.request.address
                          (BitVec.ofNat 16 (1 + 256 * Kind.code e.request.access.kind))))))
        ∧ (p.item = .posted → exec (.branchAck data) s = .next (State.afterEnd (recovered s.postLeft)))

/-- 04 R77, R79, R82, 02 R35, R42, 03 R57: an ERR ends the item with outcome DEVICE and CYCLE_ERROR; 04 R78: an answer with no item ACTIVE
is ignored. -/
def Obligations.ErrEndsTheItem : Prop :=
  ∀ s : State,
    (∀ (p : Progress) (c : Cycle) (it : Item), s.OnBranch p.item p c → s.activeItem p.item = some it →
        let reported (t : State) : State :=
          t.notified .cycleError (some it.route.window) (some it.request.requester) it.route.epoch (c.index.setWidth 32)
            (BitVec.ofNat 16 p.cyclesDone)
        (∀ (i : Slot) (e : Entry), p.item = .entry i → s.slots.get i = some e →
            (e.phase = .active →
                exec .branchErr s = .next (State.afterEnd (reported (s.entryReady i e (.fault .device) []))))
              ∧ (e.phase = .cancelled →
                  exec .branchErr s =
                    .next
                      (State.afterEnd
                        ((reported (s.slotFreed i)).notified .resultDiscarded (some e.route.window) (some e.request.requester)
                          s.window.epoch e.request.address
                          (BitVec.ofNat 16 (3 + 16 * 6 + 256 * Kind.code e.request.access.kind))))))
          ∧ (p.item = .posted → exec .branchErr s = .next (State.afterEnd (reported s.postLeft))))
      ∧ (s.branch.active = none → exec .branchErr s = .next s ∧ ∀ data : HalfWord, exec (.branchAck data) s = .next s)

/-- 05 R93, R94, R100, 02 R35, R42, 03 R58: the last allowed attempt under SKIP, and BRANCH_ABORT under either final action, end the item: a
READ entry READY with FILLED and the fill pattern in every word, a WRITE entry with FAULT(TIMEOUT), a CANCELLED entry discarded, a posted
write gone, with CYCLE_SKIPPED. With no item ACTIVE, BRANCH_ABORT is refused with IDLE, in every branch power state. The reissues used in
CYCLE_SKIPPED's aux are the item's, as 05 R94 says; for a posted write 03 R58 speaks of those on the abandoned cycle, and taking the
item's there too is the model's reading (log 11). -/
def Obligations.SkipAndAbortEndTheItem : Prop :=
  (∀ (s : State) (p : Progress) (c : Cycle) (it : Item) (r : Requester), s.OnBranch p.item p c →
        s.activeItem p.item = some it → p.cyclesDone < 16 → p.reissuesUsed < 8 →
          let skipped (aborted : Bool) (t : State) : State :=
            t.notified .cycleSkipped (some it.route.window) (some it.request.requester) it.route.epoch (c.index.setWidth 32)
              (BitVec.ofNat 16 (p.cyclesDone + 16 * p.reissuesUsed + 32768 * aborted.toNat))
          let expires : Prop :=
            p.timer = some 0 ∧ p.reissuesUsed = it.route.reissueCount.toNat ∧ it.route.finalAction = .skip
          let both (after : Bool → State) : Prop :=
            (expires → exec .handshakeLimitExpiry s = .next (after false))
              ∧ (s.accepts r → exec (.branchAbort r) s = .next ((after true).reported (.command .branchAbort) r .done .none 0))
          (∀ (i : Slot) (e : Entry), p.item = .entry i → s.slots.get i = some e →
              (e.phase = .active → e.request.access.kind = .read →
                  both fun aborted =>
                    State.afterEnd
                      (skipped aborted (s.entryReady i e .filled (List.replicate e.request.access.count e.route.fill))))
                ∧ (e.phase = .active → e.request.access.kind = .write →
                    both fun aborted => State.afterEnd (skipped aborted (s.entryReady i e (.fault .timeout) [])))
                ∧ (e.phase = .cancelled →
                    both fun aborted =>
                      State.afterEnd
                        ((skipped aborted (s.slotFreed i)).notified .resultDiscarded (some e.route.window)
                          (some e.request.requester) s.window.epoch e.request.address
                          (BitVec.ofNat 16
                            (if e.request.access.kind = .read then 2 else 3 + 16 * 7 + 256)))))
            ∧ (p.item = .posted → both fun aborted => State.afterEnd (skipped aborted s.postLeft)))
    ∧ ∀ (s : State) (r : Requester), s.accepts r → s.branch.active = none →
        exec (.branchAbort r) s = .next (s.reported (.command .branchAbort) r .refused .idle 0)

/-- 05 R95, R96, R98, 01 R21, 02 R34, 03 R59, R60: the last allowed attempt under FENCE. The item ends with FAULT(TIMEOUT), or its write
leaves the queue; the window's flag is set unless the item is retired; every QUEUED entry of its window and epoch becomes READY with
FAULT(FENCED) and every waiting write of them is dropped, each with its reference: the k-th posted reference leaves exactly when the k-th waiting
write is dropped (03 R52); WINDOW_FENCED carries the counts, and a CANCELLED entry's RESULT_DISCARDED follows it. -/
def Obligations.FenceEndsTheItemAndPurges : Prop :=
  ∀ (s : State) (p : Progress) (c : Cycle) (it : Item), s.ItemsTracked → s.WithinCapacity → s.OnBranch p.item p c →
    s.activeItem p.item = some it → p.timer = some 0 → p.reissuesUsed = it.route.reissueCount.toNat →
      it.route.finalAction = .fence →
        let w := it.route.window
        let hit (e : Entry) : Bool := e.phase == .queued && e.route.window == w && e.route.epoch == it.route.epoch
        let dropped (x : PostedWrite) : Bool := x.route.window == w && x.route.epoch == it.route.epoch
        let waiting := if p.item = .posted then s.posts.tail else s.posts
        let faulted := ((List.finRange 8).filter fun i => (s.slots.get i).any hit).length
        let report (t : State) : State :=
          t.notified .windowFenced (some w) (some it.request.requester) s.window.epoch (c.index.setWidth 32)
            (BitVec.ofNat 16
              (faulted + 16 * (waiting.filter dropped).length + if it.route.epoch = s.window.epoch then 0 else 32768))
        let left (ref : Ref) (k : Nat) : Bool :=
          match ref with
          | .entry i => (s.slots.get i).any hit
          | .posted => (waiting[k]?).any dropped
        ∃ t : State, exec .handshakeLimitExpiry s = .next t
          ∧ (∀ i : Slot, s.slots.get i = none → t.slots.get i = none)
          ∧ t.branch.issueOrder
              = (s.branch.issueOrder.zipIdx.filter fun x => !left x.1 ((s.branch.issueOrder.take x.2).count .posted)).map (·.1)
          ∧ (∀ v : WindowNo, t.fenced v = (s.fenced v || (v == w && it.route.epoch == s.window.epoch)))
          ∧ t.window = { s.window with fences := t.window.fences }
          ∧ (∀ (i : Slot) (e : Entry), s.slots.get i = some e →
              (hit e = true →
                  t.slots.get i
                    = some { e with phase := .ready { status := .fault .fenced, data := [] } s.holdNow })
                ∧ (hit e = false → p.item ≠ .entry i → t.slots.get i = some e)
                ∧ (p.item = .entry i → e.phase = .active →
                    t.slots.get i
                      = some { e with phase := .ready { status := .fault .timeout, data := [] } s.holdNow })
                ∧ (p.item = .entry i → e.phase = .cancelled → t.slots.get i = none))
          ∧ t.posts = waiting.filter (fun x => !dropped x)
          ∧ t.branch.issueOrder.Sublist s.branch.issueOrder
          ∧ (∀ i : Slot, .entry i ∈ t.branch.issueOrder ↔ ∃ e ∈ s.slots.get i, e.phase = .queued ∧ hit e = false)
          ∧ t.branch.issueOrder.count .posted = t.posts.length
          ∧ t.branch =
              (State.afterEnd { s with branch.active := none, branch.issueOrder := t.branch.issueOrder }).branch
          ∧ t.reclaim = s.reclaim ∧ t.mgmt = s.mgmt ∧ t.port = s.port
          ∧ ((∀ (i : Slot) (e : Entry), p.item = .entry i → s.slots.get i = some e → e.phase ≠ .cancelled) →
              t.notice = (report s).notice)
          ∧ ∀ (i : Slot) (e : Entry), p.item = .entry i → s.slots.get i = some e → e.phase = .cancelled →
              t.notice =
                ((report s).notified .resultDiscarded (some w) (some e.request.requester) s.window.epoch e.request.address
                  (BitVec.ofNat 16 (3 + 16 * 7 + 256 * Kind.code e.request.access.kind))).notice

/-- 09 R156, 02 R35, 05 R88, 10 R161: what a passing microsecond does, and that `n + 1` of them do what `n` and one more do. 05 R92, R104,
R105, 02 R39, 10 R166: an expiry row whose timer does not stand at zero, because time is left, or because it was stopped or restarted,
changes nothing (log 3). MODEL'S CHOICE (log 2): time passes on an empty queue alone, and not while an event of the bridge's own is due,
which a timer at zero always is; that event is then taken. -/
def Obligations.TimePassesWhenNothingIsWaitingOrDue : Prop :=
  ∀ (s : State) (n : Nat),
    (s.port.held = false → s.pending = [] → s.ownEvent = none →
        ∃ t : State, step s = .next t
          ∧ t = { s with mgmt.timeBase := s.mgmt.timeBase + 1, slots := t.slots, branch := t.branch }
          ∧ t.branch =
              { s.branch with
                active := s.branch.active.map fun p => { p with timer := p.timer.map (· - 1) }
                warmUpTimer := s.branch.warmUpTimer.map (· - 1)
                idleTimer := s.branch.idleTimer.map (· - 1) }
          ∧ ∀ i : Slot,
              t.slots.get i =
                (s.slots.get i).map fun e =>
                  match e.phase with
                  | .ready r hold => { e with phase := .ready r (hold.map (· - 1)) }
                  | _ => e)
      ∧ s.elapse (n + 1) = (s.elapse n).elapse 1
      ∧ (s.pending = [] →
          ((∃ p ∈ s.branch.active, p.timer = some 0) ∨ (∃ i : Slot, s.holdRemaining i = some 0) ∨ s.branch.warmUpTimer = some 0
              ∨ s.branch.idleTimer = some 0) →
            ∃ c : Instr, s.ownEvent = some c ∧ step s = exec c s)
      ∧ (∀ i : Slot, s.holdRemaining i ≠ some 0 → exec (.holdExpiry i) s = .next s)
      ∧ ((∀ p ∈ s.branch.active, p.timer ≠ some 0) → exec .handshakeLimitExpiry s = .next s)
      ∧ (s.branch.warmUpTimer ≠ some 0 → exec .warmUpExpiry s = .next s)
      ∧ (s.branch.idleTimer ≠ some 0 → exec .idleTimerExpiry s = .next s)

/-- 02 R37, R38, 06 R108: hold expiry. The slot becomes FREE; a SENSITIVE OK read makes a reclaim record, with READ_RECLAIMED, or is lost to
a full log, with RECLAIM_OVERFLOW; anything else is discarded with RESULT_DISCARDED. -/
def Obligations.HoldExpiryDisposesOfTheResult : Prop :=
  ∀ (s : State) (i : Slot) (e : Entry) (result : Result), s.slots.get i = some e → e.phase = .ready result (some 0) →
    let freed : State := { s with slots := s.slots.set i none }
    let told (t : State) (kind : NoticeKind) (aux : BitVec 16) : State :=
      t.notified kind (some e.route.window) (some e.request.requester) s.window.epoch e.request.address aux
    let keeps : Prop := e.request.access.kind = .read ∧ e.route.readClass = .sensitive ∧ result.status = .ok
    let status : Nat :=
      match result.status with
      | .ok => 1
      | .filled => 2
      | .fault code => 3 + 16 * FaultCode.code code
    (keeps → s.reclaim.records.length < 8 →
        exec (.holdExpiry i) s =
          .next (told { freed with reclaim := s.logWith [(e, result.data)] } .readReclaimed s.reclaim.nextSequence))
      ∧ (keeps → 8 ≤ s.reclaim.records.length →
          exec (.holdExpiry i) s = .next (told freed .reclaimOverflow (BitVec.ofNat 16 e.request.access.count)))
      ∧ (¬keeps →
          exec (.holdExpiry i) s =
            .next (told freed .resultDiscarded (BitVec.ofNat 16 (status + 256 * Kind.code e.request.access.kind))))

/-- 10 R163, R164: the warm-up timer's expiry gives RUNNING, with the idle timer started when the engine is idle, or with the mark
PARKING, or PARKED when idle; the idle timer's expiry gives PARKED. 10 R166: an expiry that finds its timer stopped or restarted changes
nothing. -/
def Obligations.ParkingTimersExpire : Prop :=
  ∀ s : State,
    (s.branch.warmUpTimer = some 0 →
        (s.branch.parkAfterWake = false →
            exec .warmUpExpiry s =
              .next
                { s with
                  branch.power := .running
                  branch.warmUpTimer := none
                  branch.idleTimer :=
                    if s.branch.active = none ∧ s.branch.issueOrder = [] ∧ s.mgmt.autoPark ≠ 0 then
                      some (1000 * s.mgmt.autoPark.toNat)
                    else none })
          ∧ (s.branch.parkAfterWake = true →
              exec .warmUpExpiry s =
                .next
                  { s with
                    branch.power :=
                      if s.branch.active = none ∧ s.branch.issueOrder = [] then .parked else .parking
                    branch.warmUpTimer := none
                    branch.parkAfterWake := false }))
      ∧ (s.branch.warmUpTimer ≠ some 0 → exec .warmUpExpiry s = .next s)
      ∧ (s.branch.idleTimer = some 0 →
          exec .idleTimerExpiry s = .next { s with branch.power := .parked, branch.idleTimer := none })
      ∧ (s.branch.idleTimer ≠ some 0 → exec .idleTimerExpiry s = .next s)

/-- 10 R162, R163: PARK and WAKE in each branch power state, both always DONE. -/
def Obligations.ParkAndWakeByState : Prop :=
  ∀ (s : State) (r : Requester), s.accepts r →
    let park (t : State) : Prop := exec (.park r) s = .next (t.reported (.command .park) r .done .none 0)
    let wake (t : State) : Prop := exec (.wake r) s = .next (t.reported (.command .wake) r .done .none 0)
    (s.branch.power = .running → (s.branch.active ≠ none ∨ s.branch.issueOrder ≠ []) →
        park { s with branch.power := .parking, branch.idleTimer := none } ∧ wake s)
      ∧ (s.branch.power = .running → s.branch.active = none → s.branch.issueOrder = [] →
          park { s with branch.power := .parked, branch.idleTimer := none } ∧ wake s)
      ∧ (s.branch.power = .parking → park s ∧ wake { s with branch.power := .running })
      ∧ (s.branch.power = .parked →
          park s
            ∧ wake
                { s with
                  branch.power := .waking
                  branch.warmUpTimer := some (16 * s.mgmt.warmUp.toNat)
                  branch.parkAfterWake := false })
      ∧ (s.branch.power = .waking →
          park { s with branch.parkAfterWake := true } ∧ wake { s with branch.parkAfterWake := false })

/-! ### The notice engine -/

/-- 07 R124, 11 R168: the record write of the backlog's head: its requester, its slot in the ring and its four words, with none as 0xFF,
and the numbers of the notice kinds, the fault codes and the kinds of request (11 11.7); and no write where one of the four conditions
fails. -/
def Obligations.RecordWriteCarriesTheHead : Prop :=
  ([NoticeKind.accessDenied, .cycleError, .cycleSkipped, .windowFenced, .reissueRecovered, .resultDiscarded, .readReclaimed,
        .reclaimOverflow, .lateDelivery, .tableCommitted, .tableRejected, .pendingFlushed, .bridgeReset, .ringHalf].map NoticeKind.code
      = [0x01, 0x02, 0x03, 0x04, 0x05, 0x06, 0x07, 0x08, 0x09, 0x0A, 0x0B, 0x0C, 0x0D, 0x0E])
    ∧ ([FaultCode.form, .span, .noRoute, .denied, .fenced, .device, .timeout, .conflict].map FaultCode.code = [1, 2, 3, 4, 5, 6, 7, 8])
    ∧ ([Kind.read, .write].map Kind.code = [0, 1])
    ∧ ∀ s : State,
    (∀ (n : Notice) (rest : List Notice), s.notice.state = .running → s.notice.flight = none → s.notice.backlog = n :: rest →
        (s.notice.producer - s.notice.consumer).toNat < 2 ^ s.notice.ringOrder.toNat →
          ∃ w : EngineWrite,
            exec .recordWrite s
                = .next { s with notice.flight := some { kind := .record, presented := w }, notice.waitCount := 0 }
              ∧ w.requester = s.notice.ownRequester
              ∧ w.address.toNat =
                  (s.notice.ringBase.toNat + 16 * (s.notice.producer.toNat % 2 ^ s.notice.ringOrder.toNat)) % 2 ^ 32
              ∧ w.words.map (·.toNat)
                  = [ NoticeKind.code n.kind + 2 ^ 8 * (match n.window with | some x => x.val | none => 0xFF)
                        + 2 ^ 16 * (match n.requester with | some x => x.val | none => 0xFF) + 2 ^ 24 * n.epoch.toNat,
                      n.sequence.toNat + 2 ^ 16 * n.aux.toNat, n.timeTag.toNat, n.detail.toNat ])
      ∧ (s.notice.state ≠ .running ∨ s.notice.flight ≠ none ∨ s.notice.backlog = []
            ∨ 2 ^ s.notice.ringOrder.toNat ≤ (s.notice.producer - s.notice.consumer).toNat →
          exec .recordWrite s = .next s)

/-- 07 R125, R128, R129: the DONE of a record write: the producer counter rises, the head leaves, RING_HALF is generated at exactly half with
half-armed set, and the signal write is issued when enabled and armed. 07 R131: the DONE of an abandoned record write with no NOTICE_START
since, while RUNNING, does the same but leaves the backlog's notices. -/
def Obligations.RecordWriteDoneAdvancesTheRing : Prop :=
  ∀ (s : State) (f : Flight), s.notice.flight = some f →
    let finish (t : State) : State :=
      let half := 2 * (s.notice.producer + 1 - s.notice.consumer).toNat = 2 ^ s.notice.ringOrder.toNat ∧ s.notice.halfArmed = true
      let u : State :=
        if half then
          { t with notice.halfArmed := false }.notified .ringHalf none none s.window.epoch
            ((s.notice.producer + 1).setWidth 32) s.notice.consumer
        else t
      if s.notice.signalEnable = true ∧ s.notice.signalArmed = true then
        { u with
          notice.signalArmed := false
          notice.waitCount := 0
          notice.flight :=
            some
              { kind := .signal,
                presented :=
                  { requester := s.notice.ownRequester, address := s.notice.signalAddress, words := [s.notice.signalValue] } } }
      else u
    let landed : State := { s with notice.producer := s.notice.producer + 1, notice.flight := none }
    (f.kind = .record →
        exec .recordWriteDone s = .next (finish { landed with notice.backlog := s.notice.backlog.tail, notice.waitCount := 0 }))
      ∧ (f.kind = .abandoned true false → s.notice.state = .running →
          exec (.abandonedWriteAnswer .done) s = .next (finish landed))

/-- 07 R125, R126, R128: WAIT and FAULT of a record write and of a signal write, and DONE of a signal write. -/
def Obligations.WaitsAndFaultsStallTheEngine : Prop :=
  ∀ (s : State) (f : Flight), s.notice.flight = some f →
    let stalled (t : State) (reason : StallReason) : State :=
      { t with notice.state := .stalled, notice.stallReason := reason, notice.flight := none }
    let waited : State := { s with notice.waitCount := s.notice.waitCount + 1 }
    (f.kind = .record →
        (s.notice.waitCount < 63 → exec .recordWriteWait s = .next waited)
          ∧ (s.notice.waitCount = 63 → exec .recordWriteWait s = .next (stalled waited .recordWaitLimit))
          ∧ ∀ code : FaultCode, exec (.recordWriteFault code) s = .next (stalled s .recordFault))
      ∧ (f.kind = .signal →
          (s.notice.waitCount < 63 → exec .signalWriteWait s = .next waited)
            ∧ (s.notice.waitCount = 63 → exec .signalWriteWait s = .next (stalled waited .signalWaitLimit))
            ∧ (∀ code : FaultCode, exec (.signalWriteFault code) s = .next (stalled s .signalFault))
            ∧ exec .signalWriteDone s = .next { s with notice.flight := none })

/-- 07 R122, R127: NOTICE_START. From OFF the FIELD check, then RING_CLASH, then the start, which
issues no write until an abandoned write has been answered; from STALLED the resume; in RUNNING nothing. -/
def Obligations.NoticeStartByState : Prop :=
  ∀ (s : State) (r : Requester), s.accepts r →
    let fieldFails : Prop :=
      s.notice.ringOrder.toNat < 3 ∨ 10 < s.notice.ringOrder.toNat
        ∨ 0xFFFFFFFF < s.notice.ringBase.toNat + 16 * 2 ^ s.notice.ringOrder.toNat - 1
    let clashes : Prop :=
      ∃ a : Nat, s.notice.RingByte a ∧ (s.ApertureByte a ∨ ∃ w : WindowNo, (s.window.active.get w).HoldsByte a)
    let answer (t : State) (outcome : ResultOutcome) (reason : Reason) : Prop :=
      exec (.noticeStart r) s = .next (t.reported (.command .noticeStart) r outcome reason 0)
    (s.notice.state = .off → fieldFails → answer s .refused .field)
      ∧ (s.notice.state = .off → ¬fieldFails → clashes → answer s .refused .ringClash)
      ∧ (s.notice.state = .off → ¬fieldFails → ¬clashes →
          answer
            { s with
              notice.state := .running
              notice.stallReason := .none
              notice.producer := 0
              notice.consumer := 0
              notice.signalArmed := true
              notice.halfArmed := true
              notice.waitCount := 0
              notice.flight := flightRestarted s.notice.flight } .done .none)
      ∧ (s.notice.state = .stalled →
          answer
            { s with
              notice.state := .running
              notice.stallReason := .none
              notice.waitCount := 0
              notice.signalArmed :=
                if s.notice.stallReason = .signalFault ∨ s.notice.stallReason = .signalWaitLimit then true
                else s.notice.signalArmed } .done .none)
      ∧ (s.notice.state = .running → answer s .done .none)

/-- 07 R131: NOTICE_STOP, in any state: the engine is OFF, the backlog empty, and a write in flight becomes an abandoned write. 07 R131,
R133: an abandoned write's answer: while OFF the DONE of a record write advances the producer counter and nothing else; after a
NOTICE_START from OFF, for a signal write, and for WAIT and FAULT, the answer has no effect. The write is over in every case. What OFF
does after a start and a stop is the model's reading (log 7), and so is the WAIT repeat count that NOTICE_STOP leaves (log 17). -/
def Obligations.NoticeStopAbandonsTheWrite : Prop :=
  (∀ (s : State) (r : Requester), s.accepts r →
      exec (.noticeStop r) s =
        .next
          ({ s with
              notice.state := .off
              notice.backlog := []
              notice.stallReason := .none
              notice.flight := flightAbandoned s.notice.flight }.reported (.command .noticeStop) r .done .none 0))
    ∧ ∀ (s : State) (f : Flight) (wasRecord restarted : Bool), s.notice.flight = some f →
        f.kind = .abandoned wasRecord restarted →
          (wasRecord = true → s.notice.state = .off →
              exec (.abandonedWriteAnswer .done) s
                = .next { s with notice.producer := s.notice.producer + 1, notice.flight := none })
            ∧ (wasRecord = true → restarted = true → s.notice.state = .running →
                exec (.abandonedWriteAnswer .done) s = .next { s with notice.flight := none })
            ∧ (wasRecord = false → exec (.abandonedWriteAnswer .done) s = .next { s with notice.flight := none })
            ∧ exec (.abandonedWriteAnswer .wait) s = .next { s with notice.flight := none }
            ∧ ∀ code : FaultCode, exec (.abandonedWriteAnswer (.fault code)) s = .next { s with notice.flight := none }

/-- 07 R122, 11 R167: a write to a notice configuration word. -/
def Obligations.ConfigurationWriteByState : Prop :=
  ∀ (s : State) (r : Requester) (v : Word), s.accepts r →
    let put (field : ConfigField) (n : NoticeEngine) : Prop :=
      exec (.noticeConfigurationWrite r field v) s = .next ({ s with notice := n }.reported .noticeWrite r .done .none 0)
    let refuse (field : ConfigField) (reason : Reason) : Prop :=
      exec (.noticeConfigurationWrite r field v) s = .next (s.reported .noticeWrite r .refused reason 0)
    (s.notice.state ≠ .off → ∀ field : ConfigField, refuse field .state)
      ∧ (s.notice.state = .off →
          (if v.toNat % 16 = 0 then put .ringBase { s.notice with ringBase := v } else refuse .ringBase .field)
            ∧ (if 3 ≤ v.toNat ∧ v.toNat ≤ 10 then put .ringOrder { s.notice with ringOrder := BitVec.ofNat 4 v.toNat }
                else refuse .ringOrder .field)
            ∧ (if v.toNat % 4 = 0 then put .signalAddress { s.notice with signalAddress := v }
                else refuse .signalAddress .field)
            ∧ put .signalValue { s.notice with signalValue := v }
            ∧ put .signalEnable { s.notice with signalEnable := v.toNat % 2 == 1 }
            ∧ (∀ id : Requester, id.val = v.toNat → put .ownRequester { s.notice with ownRequester := id })
            ∧ (15 < v.toNat → refuse .ownRequester .field))

/-- 07 R130: a write to the consumer counter, which takes bits 15:0 (11 R167), is accepted when the new occupancy is at most the old one.
Half-armed is set below half the ring of 2^order records; at ring order 0 that is the model's reading (log 21). -/
def Obligations.ConsumerWriteMovesTowardTheProducer : Prop :=
  ∀ (s : State) (r : Requester) (v : Word), s.accepts r →
    let c : BitVec 16 := BitVec.ofNat 16 v.toNat
    let new := (s.notice.producer.toNat + 65536 - c.toNat) % 65536
    let old := (s.notice.producer.toNat + 65536 - s.notice.consumer.toNat) % 65536
    (new ≤ old →
        exec (.consumerCounterWrite r v) s =
          .next
            ({ s with
                notice.consumer := c
                notice.signalArmed := true
                notice.halfArmed := if 2 * new < 2 ^ s.notice.ringOrder.toNat then true else s.notice.halfArmed }.reported
              .noticeWrite r .done .none 0))
      ∧ (old < new → exec (.consumerCounterWrite r v) s = .next (s.reported .noticeWrite r .refused .badIndex 0))

/-! ### Commands -/

/-- 01 R11, R12, R14, R15, R16: the eight checks. CHECK fails exactly when the sum differs; the sum equal, the check reported is the first
of the others that fails anywhere, at the lowest window that fails it. -/
def Obligations.CommitReportsTheFirstFailingCheck : Prop :=
  ∀ s : State,
    (s.shadowSum ≠ s.mgmt.check → s.commitFailure = some (.check, none))
      ∧ (s.shadowSum = s.mgmt.check →
          (s.commitFailure = none ↔ ∀ reason : Reason, ∀ w : WindowNo, ¬s.FailsAt reason w)
            ∧ ∀ (reason : Reason) (w : WindowNo), s.commitFailure = some (reason, some w) ↔
                s.FailsAt reason w ∧ (∀ v : WindowNo, v < w → ¬s.FailsAt reason v)
                  ∧ ∀ earlier ∈ commitOrder.takeWhile (· != reason), ∀ v : WindowNo, ¬s.FailsAt earlier v)

/-- 01 R10, R11, 07 R119, 09 R151: COMMIT. With no check failing the shadow is installed, the epoch incremented, every flag cleared and
TABLE_COMMITTED generated; else nothing changes but TABLE_REJECTED and the result. 11 11.7: the numbers of the refusal reasons. -/
def Obligations.CommitInstallsOrRejects : Prop :=
  ([Reason.none, .unknown, .field, .state, .check, .align, .branchRange, .overlap, .aperture, .ring, .sensitiveReissue, .notFenced,
        .empty, .idle, .ringClash, .badIndex].map Reason.code
      = [0, 1, 2, 3, 4, 5, 6, 7, 8, 9, 10, 11, 12, 13, 14, 15])
    ∧ ∀ (s : State) (r : Requester), s.accepts r →
    (s.commitFailure = none →
        exec (.commit r) s =
          .next
            (({ s with
                  window := { s.window with active := s.window.shadow, epoch := s.window.epoch + 1, fences := 0 } }.notified
                .tableCommitted none (some r) (s.window.epoch + 1) s.mgmt.check
                (BitVec.ofNat 16 ((List.finRange 16).filter fun w => s.fenced w).length)).reported
              (.command .commit) r .done .none ((s.window.epoch + 1).setWidth 16)))
      ∧ ∀ (reason : Reason) (w : Option WindowNo), s.commitFailure = some (reason, w) →
          let code := match w with | some x => x.val | none => 0xFF
          exec (.commit r) s =
            .next
              ((s.notified .tableRejected none (some r) s.window.epoch s.shadowSum
                  (BitVec.ofNat 16 (Reason.code reason + 256 * code))).reported
                (.command .commit) r .refused reason (BitVec.ofNat 16 code))

/-- 05 R102. -/
def Obligations.UnfenceClearsItsWindowsFlag : Prop :=
  ∀ (s : State) (r : Requester) (arg : BitVec 8), s.accepts r →
    let answer (t : State) (outcome : ResultOutcome) (reason : Reason) : Prop :=
      exec (.unfence r arg) s = .next (t.reported (.command .unfence) r outcome reason (arg.setWidth 16))
    (15 < arg.toNat → answer s .refused .field)
      ∧ ∀ w : WindowNo, w.val = arg.toNat →
          (s.fenced w = false → answer s .refused .notFenced)
            ∧ (s.fenced w = true → ∃ flags : BitVec 16,
                (∀ v : WindowNo, flags.getLsbD v.val = (s.fenced v && v != w))
                  ∧ answer { s with window.fences := flags } .done .none)

/-- 02 R40, 04 R68: what a FLUSH leaves: QUEUED and READY entries FREE, the ACTIVE entry CANCELLED, posted writes and their references as
they were; an engine it leaves with nothing to do becomes idle (04 R84). -/
def Obligations.FlushEmptiesThePendingTable : Prop :=
  ∀ (s : State) (r : Requester), s.accepts r → s.ItemsTracked →
    ∃ t : State, exec (.flush r) s = .next t
      ∧ (∀ i : Slot,
          t.slots.get i =
            (s.slots.get i).bind fun e =>
              match e.phase with
              | .queued | .ready .. => none
              | .active | .cancelled => some { e with phase := .cancelled })
      ∧ t.posts = s.posts ∧ t.window = s.window
      ∧ (let kept : State := { s with branch.issueOrder := s.branch.issueOrder.filter (· == .posted) }
        t.branch
          = if s.branch.active = none ∧ s.branch.issueOrder ≠ [] then (State.afterEnd kept).branch else kept.branch)

/-- 02 R38, R40, R41, 06 R108, 07 R119: what a FLUSH hands to the reclaim log and reports: the reads in slot order while the log has room, a
RECLAIM_OVERFLOW for each read lost, then PENDING_FLUSHED with the four counts. -/
def Obligations.FlushReclaimsAndReports : Prop :=
  ∀ (s : State) (r : Requester), s.accepts r →
    let having (p : Entry → Bool) : Nat := ((List.finRange 8).filter fun i => (s.slots.get i).any p).length
    let queued := having fun e => e.phase == .queued
    let cancelled := having fun e => e.phase == .active
    let ready := having fun e => match e.phase with | .ready .. => true | _ => false
    let reads := s.undelivered
    let reclaimed := min reads.length s.room
    let overflowed : State :=
      (reads.drop s.room).foldl (fun t p =>
        t.notified .reclaimOverflow (some p.1.route.window) (some p.1.request.requester) s.window.epoch p.1.request.address
          (BitVec.ofNat 16 p.1.request.access.count)) s
    ∃ t : State, exec (.flush r) s = .next t
      ∧ t.reclaim = s.logWith reads
      ∧ t.notice =
          (overflowed.notified .pendingFlushed none (some r) s.window.epoch
            (BitVec.ofNat 32 (queued + 2 ^ 8 * reclaimed + 2 ^ 16 * cancelled + 2 ^ 24 * (ready - reclaimed)))
            (BitVec.ofNat 16 s.posts.length)).notice
      ∧ t.mgmt = (s.reported (.command .flush) r .done .none 0).mgmt ∧ t.port = { s.port with answer := some (.done []) }

/-- 06 R114, R115: RECLAIM_POP and RECLAIM_CLEAR. -/
def Obligations.ReclaimCommandsRemoveRecords : Prop :=
  ∀ (s : State) (r : Requester), s.accepts r →
    (∀ (head : ReclaimRecord) (rest : List ReclaimRecord), s.reclaim.records = head :: rest →
        exec (.reclaimPop r) s =
          .next ({ s with reclaim.records := rest }.reported (.command .reclaimPop) r .done .none head.sequence))
      ∧ (s.reclaim.records = [] →
          exec (.reclaimPop r) s = .next (s.reported (.command .reclaimPop) r .refused .empty 0))
      ∧ exec (.reclaimClear r) s =
          .next
            ({ s with reclaim.records := [] }.reported (.command .reclaimClear) r .done .none
              (BitVec.ofNat 16 s.reclaim.records.length))

/-- 09 R154, R155, 02 R33, R36: a write to each settings word is taken in range and refused with FIELD out of range. 10
R164: a new auto-park interval acts on the idle timer at once; a write of the value already held changes nothing but the result, which
is the model's reading (log 6). -/
def Obligations.SettingsAreTakenInRange : Prop :=
  ∀ (s : State) (r : Requester) (v : Word), s.accepts r →
    let taken (t : State) : Host.Outcome State Fault Refusal := .next (t.reported .settingWrite r .done .none 0)
    let refused : Host.Outcome State Fault Refusal := .next (s.reported .settingWrite r .refused .field 0)
    (exec (.requesterQuotaWrite r v) s =
        if 1 ≤ v.toNat ∧ v.toNat ≤ 4 then taken { s with mgmt.quota := BitVec.ofNat 3 v.toNat } else refused)
      ∧ (exec (.holdLimitWrite r v) s =
          if v.toNat ≤ 65535 then taken { s with mgmt.holdLimit := BitVec.ofNat 16 v.toNat } else refused)
      ∧ (exec (.managementWriteMaskWrite r v) s =
          if 1 ≤ v.toNat ∧ v.toNat ≤ 65535 then taken { s with mgmt.writeMask := BitVec.ofNat 16 v.toNat } else refused)
      ∧ (exec (.warmUpWrite r v) s =
          if 1 ≤ v.toNat ∧ v.toNat ≤ 63 then taken { s with mgmt.warmUp := BitVec.ofNat 6 v.toNat } else refused)
      ∧ (255 < v.toNat → exec (.autoParkIntervalWrite r v) s = .next (s.reported .settingWrite r .refused .field 0))
      ∧ (v.toNat = s.mgmt.autoPark.toNat →
          exec (.autoParkIntervalWrite r v) s = .next (s.reported .settingWrite r .done .none 0))
      ∧ (v.toNat ≤ 255 → v.toNat ≠ s.mgmt.autoPark.toNat →
          let runs := s.branch.idleTimer ≠ none
            ∨ (s.branch.power = .running ∧ s.branch.active = none ∧ s.branch.issueOrder = [])
          exec (.autoParkIntervalWrite r v) s =
            .next
              ({ s with
                  mgmt.autoPark := BitVec.ofNat 8 v.toNat
                  branch.idleTimer :=
                    if runs then (if v.toNat = 0 then none else some (1000 * v.toNat)) else none }.reported
                .settingWrite r .done .none 0))

/-- 01 R18: REVERT copies the active table into the shadow. 09 R156: TIME_SET takes STAGE into the time base. 09 R150: a code that names no
command is refused with UNKNOWN and its code. Nothing else changes but the result. -/
def Obligations.RevertTimeSetAndUnknownCommand : Prop :=
  ∀ (s : State) (r : Requester), s.accepts r →
    exec (.revert r) s =
        .next ({ s with window.shadow := s.window.active }.reported (.command .revert) r .done .none 0)
      ∧ exec (.timeSet r) s = .next ({ s with mgmt.timeBase := s.mgmt.stage }.reported (.command .timeSet) r .done .none 0)
      ∧ ∀ code : BitVec 8, code = 0 ∨ 0x0D < code.toNat →
          exec (.unknownCommand r code) s
            = .next (s.reported .unknownCommand r .refused .unknown (code.setWidth 16))

/-- 09 R159, 01 R23, 02 R45, 03 R63, 04 R86, 06 R117, 07 R133, R134, 10 R166: BRIDGE_RESET: every block's part of the soft reset, and the
notice with its counts. 05 R104, 10 R166: an expiry taken after it finds its timer stopped or restarted and changes nothing. That the
idle timer restarts when the Branch was idle before is R166 against R164 (log 8). -/
def Obligations.BridgeResetResetsEveryBlock : Prop :=
  ∀ (s : State) (r : Requester), s.accepts r →
    ∃ slots : Vector (Option Entry) 8,
      exec (.bridgeReset r) s =
          .next
            (({ s with
                  window.fences := 0
                  slots := slots
                  posts := []
                  branch :=
                    { issueOrder := [], active := none, power := .running, parkAfterWake := false, warmUpTimer := none,
                      idleTimer := if s.mgmt.autoPark = 0 then none else some (1000 * s.mgmt.autoPark.toNat) }
                  reclaim := s.logWith s.undelivered
                  notice :=
                    { s.notice with
                      backlog := []
                      flight := flightAbandoned s.notice.flight
                      waitCount := 0
                      state := if s.notice.state = EngineState.off then EngineState.off else EngineState.running
                      stallReason := .none
                      signalArmed :=
                        s.notice.signalArmed
                          || (s.notice.state == EngineState.stalled
                              && (s.notice.stallReason == StallReason.signalFault
                                  || s.notice.stallReason == StallReason.signalWaitLimit)) }
                  mgmt.resetCause := .command }.notified
                .bridgeReset none (some r) s.window.epoch
                (BitVec.ofNat 32 (s.posts.length % 65536 + 65536 * (s.undelivered.length - s.room)))
                (BitVec.ofNat 16 s.notice.backlog.length)).reported
              (.command .bridgeReset) r .done .none 0)
        ∧ (∀ i : Slot, slots.get i = none)
        ∧ ∀ t : State, exec (.bridgeReset r) s = .next t →
            exec .idleTimerExpiry t = .next t ∧ exec .warmUpExpiry t = .next t ∧ exec .handshakeLimitExpiry t = .next t
              ∧ ∀ i : Slot, exec (.holdExpiry i) t = .next t

end
end

