-- ==== Sys2Proof/Laws/State.lean ====
section
/-! SUPPORT. One lemma per block or field of the state for each named update, so that no later proof unfolds a record update: what
the update writes, and that it leaves every other block as it was. -/

namespace Sys2Proof.Machine

/-! ### answer -/
@[simp] theorem State.answer_window (s : State) (a : Answer) : (s.answer a).window = s.window := rfl
@[simp] theorem State.answer_slots (s : State) (a : Answer) : (s.answer a).slots = s.slots := rfl
@[simp] theorem State.answer_posts (s : State) (a : Answer) : (s.answer a).posts = s.posts := rfl
@[simp] theorem State.answer_branch (s : State) (a : Answer) : (s.answer a).branch = s.branch := rfl
@[simp] theorem State.answer_reclaim (s : State) (a : Answer) : (s.answer a).reclaim = s.reclaim := rfl
@[simp] theorem State.answer_notice (s : State) (a : Answer) : (s.answer a).notice = s.notice := rfl
@[simp] theorem State.answer_mgmt (s : State) (a : Answer) : (s.answer a).mgmt = s.mgmt := rfl
@[simp] theorem State.answer_pending (s : State) (a : Answer) : (s.answer a).pending = s.pending := rfl
@[simp] theorem State.answer_answer (s : State) (a : Answer) : (s.answer a).port.answer = some a := rfl
@[simp] theorem State.answer_held (s : State) (a : Answer) : (s.answer a).port.held = s.port.held := rfl

/-! ### setResult, resultDone and resultRefused -/
@[simp] theorem State.setResult_window (s : State) (o : Origin) (r : Requester) (c : ResultOutcome) (e : Reason) (v : BitVec 16) : (s.setResult o r c e v).window = s.window := rfl
@[simp] theorem State.setResult_slots (s : State) (o : Origin) (r : Requester) (c : ResultOutcome) (e : Reason) (v : BitVec 16) : (s.setResult o r c e v).slots = s.slots := rfl
@[simp] theorem State.setResult_posts (s : State) (o : Origin) (r : Requester) (c : ResultOutcome) (e : Reason) (v : BitVec 16) : (s.setResult o r c e v).posts = s.posts := rfl
@[simp] theorem State.setResult_branch (s : State) (o : Origin) (r : Requester) (c : ResultOutcome) (e : Reason) (v : BitVec 16) : (s.setResult o r c e v).branch = s.branch := rfl
@[simp] theorem State.setResult_reclaim (s : State) (o : Origin) (r : Requester) (c : ResultOutcome) (e : Reason) (v : BitVec 16) : (s.setResult o r c e v).reclaim = s.reclaim := rfl
@[simp] theorem State.setResult_notice (s : State) (o : Origin) (r : Requester) (c : ResultOutcome) (e : Reason) (v : BitVec 16) : (s.setResult o r c e v).notice = s.notice := rfl
@[simp] theorem State.setResult_port (s : State) (o : Origin) (r : Requester) (c : ResultOutcome) (e : Reason) (v : BitVec 16) : (s.setResult o r c e v).port = s.port := rfl
@[simp] theorem State.setResult_pending (s : State) (o : Origin) (r : Requester) (c : ResultOutcome) (e : Reason) (v : BitVec 16) : (s.setResult o r c e v).pending = s.pending := rfl
@[simp] theorem State.setResult_quota (s : State) (o : Origin) (r : Requester) (c : ResultOutcome) (e : Reason) (v : BitVec 16) : (s.setResult o r c e v).mgmt.quota = s.mgmt.quota := rfl
@[simp] theorem State.setResult_holdLimit (s : State) (o : Origin) (r : Requester) (c : ResultOutcome) (e : Reason) (v : BitVec 16) : (s.setResult o r c e v).mgmt.holdLimit = s.mgmt.holdLimit := rfl
@[simp] theorem State.setResult_writeMask (s : State) (o : Origin) (r : Requester) (c : ResultOutcome) (e : Reason) (v : BitVec 16) : (s.setResult o r c e v).mgmt.writeMask = s.mgmt.writeMask := rfl
@[simp] theorem State.setResult_warmUp (s : State) (o : Origin) (r : Requester) (c : ResultOutcome) (e : Reason) (v : BitVec 16) : (s.setResult o r c e v).mgmt.warmUp = s.mgmt.warmUp := rfl
@[simp] theorem State.setResult_autoPark (s : State) (o : Origin) (r : Requester) (c : ResultOutcome) (e : Reason) (v : BitVec 16) : (s.setResult o r c e v).mgmt.autoPark = s.mgmt.autoPark := rfl
@[simp] theorem State.setResult_check (s : State) (o : Origin) (r : Requester) (c : ResultOutcome) (e : Reason) (v : BitVec 16) : (s.setResult o r c e v).mgmt.check = s.mgmt.check := rfl
@[simp] theorem State.setResult_stage (s : State) (o : Origin) (r : Requester) (c : ResultOutcome) (e : Reason) (v : BitVec 16) : (s.setResult o r c e v).mgmt.stage = s.mgmt.stage := rfl
@[simp] theorem State.setResult_timeBase (s : State) (o : Origin) (r : Requester) (c : ResultOutcome) (e : Reason) (v : BitVec 16) : (s.setResult o r c e v).mgmt.timeBase = s.mgmt.timeBase := rfl
@[simp] theorem State.setResult_resetCause (s : State) (o : Origin) (r : Requester) (c : ResultOutcome) (e : Reason) (v : BitVec 16) : (s.setResult o r c e v).mgmt.resetCause = s.mgmt.resetCause := rfl
@[simp] theorem State.setResult_strap (s : State) (o : Origin) (r : Requester) (c : ResultOutcome) (e : Reason) (v : BitVec 16) : (s.setResult o r c e v).mgmt.strap = s.mgmt.strap := rfl
@[simp] theorem State.setResult_result (s : State) (o : Origin) (r : Requester) (c : ResultOutcome) (e : Reason) (v : BitVec 16) : (s.setResult o r c e v).mgmt.result = ⟨o, r, c, e, v, s.mgmt.result.serial + 1⟩ := rfl
@[simp] theorem State.resultDone_eq (s : State) (o : Origin) (r : Requester) (v : BitVec 16) : s.resultDone o r v = s.setResult o r .done .none v := rfl
@[simp] theorem State.resultRefused_eq (s : State) (o : Origin) (r : Requester) (e : Reason) (v : BitVec 16) : s.resultRefused o r e v = s.setResult o r .refused e v := rfl

/-! ### generate -/
@[simp] theorem State.generate_window (s : State) (e : Event) : (s.generate e).window = s.window := rfl
@[simp] theorem State.generate_slots (s : State) (e : Event) : (s.generate e).slots = s.slots := rfl
@[simp] theorem State.generate_posts (s : State) (e : Event) : (s.generate e).posts = s.posts := rfl
@[simp] theorem State.generate_branch (s : State) (e : Event) : (s.generate e).branch = s.branch := rfl
@[simp] theorem State.generate_reclaim (s : State) (e : Event) : (s.generate e).reclaim = s.reclaim := rfl
@[simp] theorem State.generate_mgmt (s : State) (e : Event) : (s.generate e).mgmt = s.mgmt := rfl
@[simp] theorem State.generate_port (s : State) (e : Event) : (s.generate e).port = s.port := rfl
@[simp] theorem State.generate_pending (s : State) (e : Event) : (s.generate e).pending = s.pending := rfl
@[simp] theorem State.generate_state (s : State) (e : Event) : (s.generate e).notice.state = s.notice.state := rfl
@[simp] theorem State.generate_stallReason (s : State) (e : Event) : (s.generate e).notice.stallReason = s.notice.stallReason := rfl
@[simp] theorem State.generate_ringBase (s : State) (e : Event) : (s.generate e).notice.ringBase = s.notice.ringBase := rfl
@[simp] theorem State.generate_ringOrder (s : State) (e : Event) : (s.generate e).notice.ringOrder = s.notice.ringOrder := rfl
@[simp] theorem State.generate_signalAddress (s : State) (e : Event) : (s.generate e).notice.signalAddress = s.notice.signalAddress := rfl
@[simp] theorem State.generate_signalValue (s : State) (e : Event) : (s.generate e).notice.signalValue = s.notice.signalValue := rfl
@[simp] theorem State.generate_signalEnable (s : State) (e : Event) : (s.generate e).notice.signalEnable = s.notice.signalEnable := rfl
@[simp] theorem State.generate_ownRequester (s : State) (e : Event) : (s.generate e).notice.ownRequester = s.notice.ownRequester := rfl
@[simp] theorem State.generate_producer (s : State) (e : Event) : (s.generate e).notice.producer = s.notice.producer := rfl
@[simp] theorem State.generate_consumer (s : State) (e : Event) : (s.generate e).notice.consumer = s.notice.consumer := rfl
@[simp] theorem State.generate_signalArmed (s : State) (e : Event) : (s.generate e).notice.signalArmed = s.notice.signalArmed := rfl
@[simp] theorem State.generate_halfArmed (s : State) (e : Event) : (s.generate e).notice.halfArmed = s.notice.halfArmed := rfl
@[simp] theorem State.generate_waitCount (s : State) (e : Event) : (s.generate e).notice.waitCount = s.notice.waitCount := rfl
@[simp] theorem State.generate_flight (s : State) (e : Event) : (s.generate e).notice.flight = s.notice.flight := rfl
@[simp] theorem State.generate_nextSequence (s : State) (e : Event) : (s.generate e).notice.nextSequence = s.notice.nextSequence + 1 := rfl
@[simp] theorem State.generate_backlog (s : State) (e : Event) : (s.generate e).notice.backlog = if s.notice.takesNotice then s.notice.backlog ++ [s.noticeOf e] else s.notice.backlog := rfl

/-! ### putEntry and freeEntry -/
@[simp] theorem State.putEntry_window (s : State) (i : Slot) (e : Entry) : (s.putEntry i e).window = s.window := rfl
@[simp] theorem State.putEntry_posts (s : State) (i : Slot) (e : Entry) : (s.putEntry i e).posts = s.posts := rfl
@[simp] theorem State.putEntry_branch (s : State) (i : Slot) (e : Entry) : (s.putEntry i e).branch = s.branch := rfl
@[simp] theorem State.putEntry_reclaim (s : State) (i : Slot) (e : Entry) : (s.putEntry i e).reclaim = s.reclaim := rfl
@[simp] theorem State.putEntry_notice (s : State) (i : Slot) (e : Entry) : (s.putEntry i e).notice = s.notice := rfl
@[simp] theorem State.putEntry_mgmt (s : State) (i : Slot) (e : Entry) : (s.putEntry i e).mgmt = s.mgmt := rfl
@[simp] theorem State.putEntry_port (s : State) (i : Slot) (e : Entry) : (s.putEntry i e).port = s.port := rfl
@[simp] theorem State.putEntry_pending (s : State) (i : Slot) (e : Entry) : (s.putEntry i e).pending = s.pending := rfl
@[simp] theorem State.putEntry_slots (s : State) (i : Slot) (e : Entry) : (s.putEntry i e).slots = s.slots.set i (some e) := rfl
@[simp] theorem State.freeEntry_window (s : State) (i : Slot) : (s.freeEntry i).window = s.window := rfl
@[simp] theorem State.freeEntry_posts (s : State) (i : Slot) : (s.freeEntry i).posts = s.posts := rfl
@[simp] theorem State.freeEntry_branch (s : State) (i : Slot) : (s.freeEntry i).branch = s.branch := rfl
@[simp] theorem State.freeEntry_reclaim (s : State) (i : Slot) : (s.freeEntry i).reclaim = s.reclaim := rfl
@[simp] theorem State.freeEntry_notice (s : State) (i : Slot) : (s.freeEntry i).notice = s.notice := rfl
@[simp] theorem State.freeEntry_mgmt (s : State) (i : Slot) : (s.freeEntry i).mgmt = s.mgmt := rfl
@[simp] theorem State.freeEntry_port (s : State) (i : Slot) : (s.freeEntry i).port = s.port := rfl
@[simp] theorem State.freeEntry_pending (s : State) (i : Slot) : (s.freeEntry i).pending = s.pending := rfl
@[simp] theorem State.freeEntry_slots (s : State) (i : Slot) : (s.freeEntry i).slots = s.slots.set i none := rfl

/-! ### appendPost and beginWake -/
@[simp] theorem State.appendPost_window (s : State) (p : PostedWrite) : (s.appendPost p).window = s.window := rfl
@[simp] theorem State.appendPost_slots (s : State) (p : PostedWrite) : (s.appendPost p).slots = s.slots := rfl
@[simp] theorem State.appendPost_branch (s : State) (p : PostedWrite) : (s.appendPost p).branch = s.branch := rfl
@[simp] theorem State.appendPost_reclaim (s : State) (p : PostedWrite) : (s.appendPost p).reclaim = s.reclaim := rfl
@[simp] theorem State.appendPost_notice (s : State) (p : PostedWrite) : (s.appendPost p).notice = s.notice := rfl
@[simp] theorem State.appendPost_mgmt (s : State) (p : PostedWrite) : (s.appendPost p).mgmt = s.mgmt := rfl
@[simp] theorem State.appendPost_port (s : State) (p : PostedWrite) : (s.appendPost p).port = s.port := rfl
@[simp] theorem State.appendPost_pending (s : State) (p : PostedWrite) : (s.appendPost p).pending = s.pending := rfl
@[simp] theorem State.appendPost_posts (s : State) (p : PostedWrite) : (s.appendPost p).posts = s.posts ++ [p] := rfl
@[simp] theorem State.beginWake_window (s : State) : (s.beginWake).window = s.window := rfl
@[simp] theorem State.beginWake_slots (s : State) : (s.beginWake).slots = s.slots := rfl
@[simp] theorem State.beginWake_posts (s : State) : (s.beginWake).posts = s.posts := rfl
@[simp] theorem State.beginWake_reclaim (s : State) : (s.beginWake).reclaim = s.reclaim := rfl
@[simp] theorem State.beginWake_notice (s : State) : (s.beginWake).notice = s.notice := rfl
@[simp] theorem State.beginWake_mgmt (s : State) : (s.beginWake).mgmt = s.mgmt := rfl
@[simp] theorem State.beginWake_port (s : State) : (s.beginWake).port = s.port := rfl
@[simp] theorem State.beginWake_pending (s : State) : (s.beginWake).pending = s.pending := rfl
@[simp] theorem State.beginWake_issueOrder (s : State) : s.beginWake.branch.issueOrder = s.branch.issueOrder := rfl
@[simp] theorem State.beginWake_active (s : State) : s.beginWake.branch.active = s.branch.active := rfl
@[simp] theorem State.beginWake_idleTimer (s : State) : s.beginWake.branch.idleTimer = s.branch.idleTimer := rfl
@[simp] theorem State.beginWake_power (s : State) : s.beginWake.branch.power = .waking := rfl
@[simp] theorem State.beginWake_warmUpTimer (s : State) : s.beginWake.branch.warmUpTimer = some s.warmUpStart := rfl
@[simp] theorem State.beginWake_parkAfterWake (s : State) : s.beginWake.branch.parkAfterWake = false := rfl

/-! ### install, purge and the notice engine's updates -/
@[simp] theorem State.install_slots (s : State) : (s.install).slots = s.slots := rfl
@[simp] theorem State.install_posts (s : State) : (s.install).posts = s.posts := rfl
@[simp] theorem State.install_branch (s : State) : (s.install).branch = s.branch := rfl
@[simp] theorem State.install_reclaim (s : State) : (s.install).reclaim = s.reclaim := rfl
@[simp] theorem State.install_notice (s : State) : (s.install).notice = s.notice := rfl
@[simp] theorem State.install_mgmt (s : State) : (s.install).mgmt = s.mgmt := rfl
@[simp] theorem State.install_port (s : State) : (s.install).port = s.port := rfl
@[simp] theorem State.install_pending (s : State) : (s.install).pending = s.pending := rfl
@[simp] theorem State.install_window (s : State) : s.install.window = { s.window with active := s.window.shadow, epoch := s.window.epoch + 1, fences := 0 } := rfl
@[simp] theorem State.purge_window (s : State) (w : WindowNo) (ep : BitVec 8) : (s.purge w ep).window = s.window := rfl
@[simp] theorem State.purge_reclaim (s : State) (w : WindowNo) (ep : BitVec 8) : (s.purge w ep).reclaim = s.reclaim := rfl
@[simp] theorem State.purge_notice (s : State) (w : WindowNo) (ep : BitVec 8) : (s.purge w ep).notice = s.notice := rfl
@[simp] theorem State.purge_mgmt (s : State) (w : WindowNo) (ep : BitVec 8) : (s.purge w ep).mgmt = s.mgmt := rfl
@[simp] theorem State.purge_port (s : State) (w : WindowNo) (ep : BitVec 8) : (s.purge w ep).port = s.port := rfl
@[simp] theorem State.purge_pending (s : State) (w : WindowNo) (ep : BitVec 8) : (s.purge w ep).pending = s.pending := rfl
@[simp] theorem State.purge_active (s : State) (w : WindowNo) (ep : BitVec 8) : (s.purge w ep).branch.active = s.branch.active := rfl
@[simp] theorem State.purge_power (s : State) (w : WindowNo) (ep : BitVec 8) : (s.purge w ep).branch.power = s.branch.power := rfl
@[simp] theorem State.purge_parkAfterWake (s : State) (w : WindowNo) (ep : BitVec 8) : (s.purge w ep).branch.parkAfterWake = s.branch.parkAfterWake := rfl
@[simp] theorem State.purge_warmUpTimer (s : State) (w : WindowNo) (ep : BitVec 8) : (s.purge w ep).branch.warmUpTimer = s.branch.warmUpTimer := rfl
@[simp] theorem State.purge_idleTimer (s : State) (w : WindowNo) (ep : BitVec 8) : (s.purge w ep).branch.idleTimer = s.branch.idleTimer := rfl
@[simp] theorem State.recordLanded_window (s : State) : (s.recordLanded).window = s.window := rfl
@[simp] theorem State.recordLanded_slots (s : State) : (s.recordLanded).slots = s.slots := rfl
@[simp] theorem State.recordLanded_posts (s : State) : (s.recordLanded).posts = s.posts := rfl
@[simp] theorem State.recordLanded_branch (s : State) : (s.recordLanded).branch = s.branch := rfl
@[simp] theorem State.recordLanded_reclaim (s : State) : (s.recordLanded).reclaim = s.reclaim := rfl
@[simp] theorem State.recordLanded_mgmt (s : State) : (s.recordLanded).mgmt = s.mgmt := rfl
@[simp] theorem State.recordLanded_port (s : State) : (s.recordLanded).port = s.port := rfl
@[simp] theorem State.recordLanded_pending (s : State) : (s.recordLanded).pending = s.pending := rfl
@[simp] theorem State.recordDelivered_window (s : State) : (s.recordDelivered).window = s.window := rfl
@[simp] theorem State.recordDelivered_slots (s : State) : (s.recordDelivered).slots = s.slots := rfl
@[simp] theorem State.recordDelivered_posts (s : State) : (s.recordDelivered).posts = s.posts := rfl
@[simp] theorem State.recordDelivered_branch (s : State) : (s.recordDelivered).branch = s.branch := rfl
@[simp] theorem State.recordDelivered_reclaim (s : State) : (s.recordDelivered).reclaim = s.reclaim := rfl
@[simp] theorem State.recordDelivered_mgmt (s : State) : (s.recordDelivered).mgmt = s.mgmt := rfl
@[simp] theorem State.recordDelivered_port (s : State) : (s.recordDelivered).port = s.port := rfl
@[simp] theorem State.recordDelivered_pending (s : State) : (s.recordDelivered).pending = s.pending := rfl
@[simp] theorem State.stall_window (s : State) (reason : StallReason) : (s.stall reason).window = s.window := rfl
@[simp] theorem State.stall_slots (s : State) (reason : StallReason) : (s.stall reason).slots = s.slots := rfl
@[simp] theorem State.stall_posts (s : State) (reason : StallReason) : (s.stall reason).posts = s.posts := rfl
@[simp] theorem State.stall_branch (s : State) (reason : StallReason) : (s.stall reason).branch = s.branch := rfl
@[simp] theorem State.stall_reclaim (s : State) (reason : StallReason) : (s.stall reason).reclaim = s.reclaim := rfl
@[simp] theorem State.stall_mgmt (s : State) (reason : StallReason) : (s.stall reason).mgmt = s.mgmt := rfl
@[simp] theorem State.stall_port (s : State) (reason : StallReason) : (s.stall reason).port = s.port := rfl
@[simp] theorem State.stall_pending (s : State) (reason : StallReason) : (s.stall reason).pending = s.pending := rfl
@[simp] theorem State.startEngine_window (s : State) : (s.startEngine).window = s.window := rfl
@[simp] theorem State.startEngine_slots (s : State) : (s.startEngine).slots = s.slots := rfl
@[simp] theorem State.startEngine_posts (s : State) : (s.startEngine).posts = s.posts := rfl
@[simp] theorem State.startEngine_branch (s : State) : (s.startEngine).branch = s.branch := rfl
@[simp] theorem State.startEngine_reclaim (s : State) : (s.startEngine).reclaim = s.reclaim := rfl
@[simp] theorem State.startEngine_mgmt (s : State) : (s.startEngine).mgmt = s.mgmt := rfl
@[simp] theorem State.startEngine_port (s : State) : (s.startEngine).port = s.port := rfl
@[simp] theorem State.startEngine_pending (s : State) : (s.startEngine).pending = s.pending := rfl
@[simp] theorem State.resumeEngine_window (s : State) : (s.resumeEngine).window = s.window := rfl
@[simp] theorem State.resumeEngine_slots (s : State) : (s.resumeEngine).slots = s.slots := rfl
@[simp] theorem State.resumeEngine_posts (s : State) : (s.resumeEngine).posts = s.posts := rfl
@[simp] theorem State.resumeEngine_branch (s : State) : (s.resumeEngine).branch = s.branch := rfl
@[simp] theorem State.resumeEngine_reclaim (s : State) : (s.resumeEngine).reclaim = s.reclaim := rfl
@[simp] theorem State.resumeEngine_mgmt (s : State) : (s.resumeEngine).mgmt = s.mgmt := rfl
@[simp] theorem State.resumeEngine_port (s : State) : (s.resumeEngine).port = s.port := rfl
@[simp] theorem State.resumeEngine_pending (s : State) : (s.resumeEngine).pending = s.pending := rfl
@[simp] theorem State.expireIdle_window (s : State) : (s.expireIdle).window = s.window := rfl
@[simp] theorem State.expireIdle_slots (s : State) : (s.expireIdle).slots = s.slots := rfl
@[simp] theorem State.expireIdle_posts (s : State) : (s.expireIdle).posts = s.posts := rfl
@[simp] theorem State.expireIdle_reclaim (s : State) : (s.expireIdle).reclaim = s.reclaim := rfl
@[simp] theorem State.expireIdle_notice (s : State) : (s.expireIdle).notice = s.notice := rfl
@[simp] theorem State.expireIdle_mgmt (s : State) : (s.expireIdle).mgmt = s.mgmt := rfl
@[simp] theorem State.expireIdle_port (s : State) : (s.expireIdle).port = s.port := rfl
@[simp] theorem State.expireIdle_pending (s : State) : (s.expireIdle).pending = s.pending := rfl
@[simp] theorem State.parkRunning_window (s : State) : (s.parkRunning).window = s.window := rfl
@[simp] theorem State.parkRunning_slots (s : State) : (s.parkRunning).slots = s.slots := rfl
@[simp] theorem State.parkRunning_posts (s : State) : (s.parkRunning).posts = s.posts := rfl
@[simp] theorem State.parkRunning_reclaim (s : State) : (s.parkRunning).reclaim = s.reclaim := rfl
@[simp] theorem State.parkRunning_notice (s : State) : (s.parkRunning).notice = s.notice := rfl
@[simp] theorem State.parkRunning_mgmt (s : State) : (s.parkRunning).mgmt = s.mgmt := rfl
@[simp] theorem State.parkRunning_port (s : State) : (s.parkRunning).port = s.port := rfl
@[simp] theorem State.parkRunning_pending (s : State) : (s.parkRunning).pending = s.pending := rfl

/-! ### operations with a condition: what each leaves unchanged -/
@[simp] theorem State.handOver_window (s : State) (e : Entry) (d : List Word) : (s.handOver e d).window = s.window := by unfold State.handOver; split <;> rfl
@[simp] theorem State.handOver_slots (s : State) (e : Entry) (d : List Word) : (s.handOver e d).slots = s.slots := by unfold State.handOver; split <;> rfl
@[simp] theorem State.handOver_posts (s : State) (e : Entry) (d : List Word) : (s.handOver e d).posts = s.posts := by unfold State.handOver; split <;> rfl
@[simp] theorem State.handOver_branch (s : State) (e : Entry) (d : List Word) : (s.handOver e d).branch = s.branch := by unfold State.handOver; split <;> rfl
@[simp] theorem State.handOver_notice (s : State) (e : Entry) (d : List Word) : (s.handOver e d).notice = s.notice := by unfold State.handOver; split <;> rfl
@[simp] theorem State.handOver_mgmt (s : State) (e : Entry) (d : List Word) : (s.handOver e d).mgmt = s.mgmt := by unfold State.handOver; split <;> rfl
@[simp] theorem State.handOver_port (s : State) (e : Entry) (d : List Word) : (s.handOver e d).port = s.port := by unfold State.handOver; split <;> rfl
@[simp] theorem State.handOver_pending (s : State) (e : Entry) (d : List Word) : (s.handOver e d).pending = s.pending := by unfold State.handOver; split <;> rfl
@[simp] theorem State.becomeIdle_window (s : State) : (s.becomeIdle).window = s.window := by unfold State.becomeIdle; split <;> rfl
@[simp] theorem State.becomeIdle_slots (s : State) : (s.becomeIdle).slots = s.slots := by unfold State.becomeIdle; split <;> rfl
@[simp] theorem State.becomeIdle_posts (s : State) : (s.becomeIdle).posts = s.posts := by unfold State.becomeIdle; split <;> rfl
@[simp] theorem State.becomeIdle_reclaim (s : State) : (s.becomeIdle).reclaim = s.reclaim := by unfold State.becomeIdle; split <;> rfl
@[simp] theorem State.becomeIdle_notice (s : State) : (s.becomeIdle).notice = s.notice := by unfold State.becomeIdle; split <;> rfl
@[simp] theorem State.becomeIdle_mgmt (s : State) : (s.becomeIdle).mgmt = s.mgmt := by unfold State.becomeIdle; split <;> rfl
@[simp] theorem State.becomeIdle_port (s : State) : (s.becomeIdle).port = s.port := by unfold State.becomeIdle; split <;> rfl
@[simp] theorem State.becomeIdle_pending (s : State) : (s.becomeIdle).pending = s.pending := by unfold State.becomeIdle; split <;> rfl
@[simp] theorem State.becomeIdle_issueOrder (s : State) : s.becomeIdle.branch.issueOrder = s.branch.issueOrder := by unfold State.becomeIdle; split <;> rfl
@[simp] theorem State.becomeIdle_active (s : State) : s.becomeIdle.branch.active = s.branch.active := by unfold State.becomeIdle; split <;> rfl
@[simp] theorem State.becomeIdle_parkAfterWake (s : State) : s.becomeIdle.branch.parkAfterWake = s.branch.parkAfterWake := by unfold State.becomeIdle; split <;> rfl
@[simp] theorem State.becomeIdle_warmUpTimer (s : State) : s.becomeIdle.branch.warmUpTimer = s.branch.warmUpTimer := by unfold State.becomeIdle; split <;> rfl
@[simp] theorem State.enqueue_window (s : State) (r : Ref) : (s.enqueue r).window = s.window := by unfold State.enqueue; dsimp only; split <;> rfl
@[simp] theorem State.enqueue_slots (s : State) (r : Ref) : (s.enqueue r).slots = s.slots := by unfold State.enqueue; dsimp only; split <;> rfl
@[simp] theorem State.enqueue_posts (s : State) (r : Ref) : (s.enqueue r).posts = s.posts := by unfold State.enqueue; dsimp only; split <;> rfl
@[simp] theorem State.enqueue_reclaim (s : State) (r : Ref) : (s.enqueue r).reclaim = s.reclaim := by unfold State.enqueue; dsimp only; split <;> rfl
@[simp] theorem State.enqueue_notice (s : State) (r : Ref) : (s.enqueue r).notice = s.notice := by unfold State.enqueue; dsimp only; split <;> rfl
@[simp] theorem State.enqueue_mgmt (s : State) (r : Ref) : (s.enqueue r).mgmt = s.mgmt := by unfold State.enqueue; dsimp only; split <;> rfl
@[simp] theorem State.enqueue_port (s : State) (r : Ref) : (s.enqueue r).port = s.port := by unfold State.enqueue; dsimp only; split <;> rfl
@[simp] theorem State.enqueue_pending (s : State) (r : Ref) : (s.enqueue r).pending = s.pending := by unfold State.enqueue; dsimp only; split <;> rfl
@[simp] theorem State.enqueue_issueOrder (s : State) (r : Ref) : (s.enqueue r).branch.issueOrder = s.branch.issueOrder ++ [r] := by unfold State.enqueue; dsimp only; split <;> rfl
@[simp] theorem State.enqueue_active (s : State) (r : Ref) : (s.enqueue r).branch.active = s.branch.active := by unfold State.enqueue; dsimp only; split <;> rfl
@[simp] theorem State.enqueue_idleTimer (s : State) (r : Ref) : (s.enqueue r).branch.idleTimer = none := by unfold State.enqueue; dsimp only; split <;> rfl
@[simp] theorem State.ringHalf_window (s : State) : (s.ringHalf).window = s.window := by unfold State.ringHalf; split <;> rfl
@[simp] theorem State.ringHalf_slots (s : State) : (s.ringHalf).slots = s.slots := by unfold State.ringHalf; split <;> rfl
@[simp] theorem State.ringHalf_posts (s : State) : (s.ringHalf).posts = s.posts := by unfold State.ringHalf; split <;> rfl
@[simp] theorem State.ringHalf_branch (s : State) : (s.ringHalf).branch = s.branch := by unfold State.ringHalf; split <;> rfl
@[simp] theorem State.ringHalf_reclaim (s : State) : (s.ringHalf).reclaim = s.reclaim := by unfold State.ringHalf; split <;> rfl
@[simp] theorem State.ringHalf_mgmt (s : State) : (s.ringHalf).mgmt = s.mgmt := by unfold State.ringHalf; split <;> rfl
@[simp] theorem State.ringHalf_port (s : State) : (s.ringHalf).port = s.port := by unfold State.ringHalf; split <;> rfl
@[simp] theorem State.ringHalf_pending (s : State) : (s.ringHalf).pending = s.pending := by unfold State.ringHalf; split <;> rfl
@[simp] theorem State.issueSignal_window (s : State) : (s.issueSignal).window = s.window := by unfold State.issueSignal; split <;> rfl
@[simp] theorem State.issueSignal_slots (s : State) : (s.issueSignal).slots = s.slots := by unfold State.issueSignal; split <;> rfl
@[simp] theorem State.issueSignal_posts (s : State) : (s.issueSignal).posts = s.posts := by unfold State.issueSignal; split <;> rfl
@[simp] theorem State.issueSignal_branch (s : State) : (s.issueSignal).branch = s.branch := by unfold State.issueSignal; split <;> rfl
@[simp] theorem State.issueSignal_reclaim (s : State) : (s.issueSignal).reclaim = s.reclaim := by unfold State.issueSignal; split <;> rfl
@[simp] theorem State.issueSignal_mgmt (s : State) : (s.issueSignal).mgmt = s.mgmt := by unfold State.issueSignal; split <;> rfl
@[simp] theorem State.issueSignal_port (s : State) : (s.issueSignal).port = s.port := by unfold State.issueSignal; split <;> rfl
@[simp] theorem State.issueSignal_pending (s : State) : (s.issueSignal).pending = s.pending := by unfold State.issueSignal; split <;> rfl
@[simp] theorem State.writeWait_window (s : State) (reason : StallReason) : (s.writeWait reason).window = s.window := by unfold State.writeWait; dsimp only; split <;> rfl
@[simp] theorem State.writeWait_slots (s : State) (reason : StallReason) : (s.writeWait reason).slots = s.slots := by unfold State.writeWait; dsimp only; split <;> rfl
@[simp] theorem State.writeWait_posts (s : State) (reason : StallReason) : (s.writeWait reason).posts = s.posts := by unfold State.writeWait; dsimp only; split <;> rfl
@[simp] theorem State.writeWait_branch (s : State) (reason : StallReason) : (s.writeWait reason).branch = s.branch := by unfold State.writeWait; dsimp only; split <;> rfl
@[simp] theorem State.writeWait_reclaim (s : State) (reason : StallReason) : (s.writeWait reason).reclaim = s.reclaim := by unfold State.writeWait; dsimp only; split <;> rfl
@[simp] theorem State.writeWait_mgmt (s : State) (reason : StallReason) : (s.writeWait reason).mgmt = s.mgmt := by unfold State.writeWait; dsimp only; split <;> rfl
@[simp] theorem State.writeWait_port (s : State) (reason : StallReason) : (s.writeWait reason).port = s.port := by unfold State.writeWait; dsimp only; split <;> rfl
@[simp] theorem State.writeWait_pending (s : State) (reason : StallReason) : (s.writeWait reason).pending = s.pending := by unfold State.writeWait; dsimp only; split <;> rfl
@[simp] theorem State.expireWarmUp_window (s : State) : (s.expireWarmUp).window = s.window := by unfold State.expireWarmUp; split <;> rfl
@[simp] theorem State.expireWarmUp_slots (s : State) : (s.expireWarmUp).slots = s.slots := by unfold State.expireWarmUp; split <;> rfl
@[simp] theorem State.expireWarmUp_posts (s : State) : (s.expireWarmUp).posts = s.posts := by unfold State.expireWarmUp; split <;> rfl
@[simp] theorem State.expireWarmUp_reclaim (s : State) : (s.expireWarmUp).reclaim = s.reclaim := by unfold State.expireWarmUp; split <;> rfl
@[simp] theorem State.expireWarmUp_notice (s : State) : (s.expireWarmUp).notice = s.notice := by unfold State.expireWarmUp; split <;> rfl
@[simp] theorem State.expireWarmUp_mgmt (s : State) : (s.expireWarmUp).mgmt = s.mgmt := by unfold State.expireWarmUp; split <;> rfl
@[simp] theorem State.expireWarmUp_port (s : State) : (s.expireWarmUp).port = s.port := by unfold State.expireWarmUp; split <;> rfl
@[simp] theorem State.expireWarmUp_pending (s : State) : (s.expireWarmUp).pending = s.pending := by unfold State.expireWarmUp; split <;> rfl
@[simp] theorem State.dispose_window (s : State) (e : Entry) (r : Result) : (s.dispose e r).window = s.window := by
  unfold State.dispose; split
  · split <;> simp
  · simp
@[simp] theorem State.dispose_slots (s : State) (e : Entry) (r : Result) : (s.dispose e r).slots = s.slots := by
  unfold State.dispose; split
  · split <;> simp
  · simp
@[simp] theorem State.dispose_posts (s : State) (e : Entry) (r : Result) : (s.dispose e r).posts = s.posts := by
  unfold State.dispose; split
  · split <;> simp
  · simp
@[simp] theorem State.dispose_branch (s : State) (e : Entry) (r : Result) : (s.dispose e r).branch = s.branch := by
  unfold State.dispose; split
  · split <;> simp
  · simp
@[simp] theorem State.dispose_mgmt (s : State) (e : Entry) (r : Result) : (s.dispose e r).mgmt = s.mgmt := by
  unfold State.dispose; split
  · split <;> simp
  · simp
@[simp] theorem State.dispose_port (s : State) (e : Entry) (r : Result) : (s.dispose e r).port = s.port := by
  unfold State.dispose; split
  · split <;> simp
  · simp
@[simp] theorem State.dispose_pending (s : State) (e : Entry) (r : Result) : (s.dispose e r).pending = s.pending := by
  unfold State.dispose; split
  · split <;> simp
  · simp
@[simp] theorem State.elapse_window (s : State) (n : Nat) : (s.elapse n).window = s.window := by unfold State.elapse; split <;> rfl
@[simp] theorem State.elapse_posts (s : State) (n : Nat) : (s.elapse n).posts = s.posts := by unfold State.elapse; split <;> rfl
@[simp] theorem State.elapse_reclaim (s : State) (n : Nat) : (s.elapse n).reclaim = s.reclaim := by unfold State.elapse; split <;> rfl
@[simp] theorem State.elapse_notice (s : State) (n : Nat) : (s.elapse n).notice = s.notice := by unfold State.elapse; split <;> rfl
@[simp] theorem State.elapse_port (s : State) (n : Nat) : (s.elapse n).port = s.port := by unfold State.elapse; split <;> rfl
@[simp] theorem State.elapse_pending (s : State) (n : Nat) : (s.elapse n).pending = s.pending := by unfold State.elapse; split <;> rfl
@[simp] theorem State.elapse_issueOrder (s : State) (n : Nat) : (s.elapse n).branch.issueOrder = s.branch.issueOrder := by unfold State.elapse; split <;> rfl
@[simp] theorem State.elapse_power (s : State) (n : Nat) : (s.elapse n).branch.power = s.branch.power := by unfold State.elapse; split <;> rfl
@[simp] theorem State.elapse_parkAfterWake (s : State) (n : Nat) : (s.elapse n).branch.parkAfterWake = s.branch.parkAfterWake := by unfold State.elapse; split <;> rfl
@[simp] theorem State.elapse_quota (s : State) (n : Nat) : (s.elapse n).mgmt.quota = s.mgmt.quota := by unfold State.elapse; split <;> rfl
@[simp] theorem State.elapse_holdLimit (s : State) (n : Nat) : (s.elapse n).mgmt.holdLimit = s.mgmt.holdLimit := by unfold State.elapse; split <;> rfl
@[simp] theorem State.elapse_writeMask (s : State) (n : Nat) : (s.elapse n).mgmt.writeMask = s.mgmt.writeMask := by unfold State.elapse; split <;> rfl
@[simp] theorem State.elapse_warmUp (s : State) (n : Nat) : (s.elapse n).mgmt.warmUp = s.mgmt.warmUp := by unfold State.elapse; split <;> rfl
@[simp] theorem State.elapse_autoPark (s : State) (n : Nat) : (s.elapse n).mgmt.autoPark = s.mgmt.autoPark := by unfold State.elapse; split <;> rfl
@[simp] theorem State.elapse_check (s : State) (n : Nat) : (s.elapse n).mgmt.check = s.mgmt.check := by unfold State.elapse; split <;> rfl
@[simp] theorem State.elapse_stage (s : State) (n : Nat) : (s.elapse n).mgmt.stage = s.mgmt.stage := by unfold State.elapse; split <;> rfl
@[simp] theorem State.elapse_result (s : State) (n : Nat) : (s.elapse n).mgmt.result = s.mgmt.result := by unfold State.elapse; split <;> rfl
@[simp] theorem State.elapse_resetCause (s : State) (n : Nat) : (s.elapse n).mgmt.resetCause = s.mgmt.resetCause := by unfold State.elapse; split <;> rfl
@[simp] theorem State.elapse_strap (s : State) (n : Nat) : (s.elapse n).mgmt.strap = s.mgmt.strap := by unfold State.elapse; split <;> rfl

end Sys2Proof.Machine
end

