-- ==== Sys2Proof/Laws/Ops.lean ====
section
/-! SUPPORT. One lemma per shared operation that says once everything it can do, for proofs to cite in place of unfolding it. -/

namespace Sys2Proof.Machine

/-! ### Notices and results -/

/-- 07 R120, R123. -/
theorem State.generate_eq_notified (s : State) (e : Event) :
    s.generate e = s.notified e.kind e.window e.requester e.epoch e.detail e.aux := by
  unfold State.generate State.notified State.noticeOf NoticeEngine.takesNotice Config.backlogCapacity
  by_cases h : s.notice.state = .off <;> by_cases l : 4 ≤ s.notice.backlog.length <;>
    simp_all [Nat.not_le.mpr, Nat.not_lt.mpr]

/-- A DONE result under the gate's answer is a reported state. -/
theorem State.resultDone_answer (s : State) (o : Origin) (r : Requester) (v : BitVec 16) :
    (s.resultDone o r v).answer (.done []) = s.reported o r .done .none v := rfl

/-- A REFUSED result under the gate's answer is a reported state. -/
theorem State.resultRefused_answer (s : State) (o : Origin) (r : Requester) (e : Reason) (v : BitVec 16) :
    (s.resultRefused o r e v).answer (.done []) = s.reported o r .refused e v := rfl

/-! ### The gate of an aperture write -/

theorem State.apertureGate_held (s : State) (r : Requester) (f : State → State) (h : s.port.held = true) :
    s.apertureGate r f = { s with port.answer := some .wait } := by
  simp [State.apertureGate, h, State.answer]

theorem State.apertureGate_denied (s : State) (r : Requester) (f : State → State) (h : s.port.held = false)
    (d : s.mgmt.writeMask.getLsbD r.val = false) :
    s.apertureGate r f = { s with port.answer := some (.fault .denied) } := by
  rw [State.apertureGate, State.mayWriteAperture, d, h]; rfl

theorem State.apertureGate_accepted (s : State) (r : Requester) (f : State → State) (h : s.accepts r) :
    s.apertureGate r f = (f s).answer (.done []) := by
  rw [State.apertureGate, State.mayWriteAperture, h.1, h.2]; rfl

/-! ### Slots -/

@[simp] theorem mapSlots_get (slots : Vector (Option Entry) 8) (f : Entry → Option Entry) (i : Slot) :
    (mapSlots slots f).get i = (slots.get i).bind f := by
  simp [mapSlots, Vector.get_eq_getElem]

@[simp] theorem slots_set_get (slots : Vector (Option Entry) 8) (i j : Slot) (e : Option Entry) :
    (slots.set i e).get j = if i = j then e else slots.get j := by
  simp only [Vector.get_eq_getElem, Vector.getElem_set, Fin.ext_iff]

/-- Two tables with the same slots are one. -/
theorem slots_ext {a b : Vector (Option Entry) 8} (h : ∀ i : Slot, a.get i = b.get i) : a = b := by
  ext i hi
  simpa [Vector.get_eq_getElem] using congrArg (· = _) (h ⟨i, hi⟩)

/-! ### Packed words -/

/-- A value placed in a field that fits the word. -/
theorem bits_toNat (pos width value : Nat) (fits : pos + width ≤ 32) :
    (bits pos width value).toNat = 2 ^ pos * (value % 2 ^ width) := by
  have small : value % 2 ^ width < 2 ^ width := Nat.mod_lt _ (Nat.two_pow_pos width)
  have wide : 2 ^ width ≤ 2 ^ 32 := Nat.pow_le_pow_right (by omega) (by omega)
  have room : value % 2 ^ width * 2 ^ pos < 2 ^ 32 := by
    calc value % 2 ^ width * 2 ^ pos < 2 ^ width * 2 ^ pos := Nat.mul_lt_mul_of_pos_right small (Nat.two_pow_pos pos)
      _ = 2 ^ (pos + width) := by rw [← Nat.pow_add, Nat.add_comm]
      _ ≤ 2 ^ 32 := Nat.pow_le_pow_right (by omega) fits
  rw [bits, BitVec.toNat_shiftLeft, BitVec.toNat_setWidth, BitVec.toNat_ofNat, Nat.mod_eq_of_lt (small.trans_le wide),
    Nat.shiftLeft_eq, Nat.mod_eq_of_lt room, Nat.mul_comm]

/-- A field put above the bits of a word in use adds its value in its place. -/
theorem or_bits_toNat (x : Word) (pos width value : Nat) (used : x.toNat < 2 ^ pos) (fits : pos + width ≤ 32) :
    (x ||| bits pos width value).toNat = x.toNat + 2 ^ pos * (value % 2 ^ width) := by
  rw [BitVec.toNat_or, bits_toNat pos width value fits, Nat.or_comm, ← Nat.two_pow_add_eq_or_of_lt used, Nat.add_comm]

/-- A packed word whose fields do not overflow it is their sum. -/
theorem packed_toNat (fields : List BitField) (h : (fields.map fun f => 2 ^ f.1 * (f.2.2 % 2 ^ f.2.1)).sum < 2 ^ 32) :
    (packed fields).toNat = (fields.map fun f => 2 ^ f.1 * (f.2.2 % 2 ^ f.2.1)).sum := by
  rw [packed, BitVec.toNat_ofNat, Nat.mod_eq_of_lt h]

/-! ### Timers -/

/-- No time changes no entry. -/
theorem Entry.elapse_zero (e : Entry) : e.elapse 0 = e := by
  unfold Entry.elapse
  rcases e with ⟨q, r, p⟩
  cases p <;> simp

/-- No time changes nothing. -/
@[simp] theorem State.elapse_zero (s : State) : s.elapse 0 = s := by
  have h : mapSlots s.slots (fun e => some (e.elapse 0)) = s.slots := by
    apply slots_ext; intro i
    rw [mapSlots_get]
    cases s.slots.get i <;> simp [Entry.elapse_zero]
  unfold State.elapse
  split
  · rfl
  · simp only [h]; simp

/-- While the reset pin holds the bridge nothing counts. -/
theorem State.elapse_held (s : State) (n : Nat) (h : s.port.held = true) : s.elapse n = s := by simp [State.elapse, h]

@[simp] theorem State.elapse_mark (s : State) (n : Nat) : (s.elapse n).branch.parkAfterWake = s.branch.parkAfterWake := by
  unfold State.elapse; split <;> rfl

/-- The timers and the slots after `n` microseconds out of hard reset. -/
theorem State.elapse_running (s : State) (n : Nat) (h : s.port.held = false) :
    (s.elapse n).mgmt = { s.mgmt with timeBase := s.mgmt.timeBase + BitVec.ofNat 32 n }
      ∧ (s.elapse n).branch.active = (s.branch.active.map fun p => { p with timer := p.timer.map (· - n) })
      ∧ (s.elapse n).branch.warmUpTimer = s.branch.warmUpTimer.map (· - n)
      ∧ (s.elapse n).branch.idleTimer = s.branch.idleTimer.map (· - n)
      ∧ ∀ i : Slot, (s.elapse n).slots.get i = (s.slots.get i).map (Entry.elapse n) := by
  refine ⟨?_, ?_, ?_, ?_, ?_⟩ <;> simp only [State.elapse, h]
  · rfl
  · rfl
  · rfl
  · rfl
  · intro i
    rw [if_neg (by simp), mapSlots_get]
    cases s.slots.get i <;> rfl

/-! ### Power -/

/-- 10 R163, R164: an admission's effect on the branch engine. -/
theorem State.enqueue_eq (s : State) (r : Ref) : s.enqueue r = { s with branch := s.branchWith r } := by
  unfold State.enqueue State.branchWith State.beginWake State.warmUpStart Config.coarseUnit
  by_cases h : s.branch.power = .parked <;> simp [h]

/-- 04 R84: an event that begins with an ACTIVE item and leaves none. -/
theorem State.settle_of_active (s t : State) (h : s.branch.active.isSome = true) (g : t.branch.active = none) :
    State.settle s t = t.afterEnd := by
  unfold State.settle State.afterEnd State.becomeIdle idleStart Config.millisecond
  by_cases l : t.branch.issueOrder = []
  · cases p : t.branch.power <;> simp [State.idle, h, g, l, p]
  · simp [State.idle, g, l]

/-! ### The reclaim log -/

/-- 06 R108: a hand-over while the log has room. -/
theorem State.handOver_room (s : State) (e : Entry) (d : List Word) (h : s.reclaim.records.length < 8) :
    s.handOver e d = { s with reclaim := s.logWith [(e, d)] } := by
  have : 8 - s.reclaim.records.length = (7 - s.reclaim.records.length) + 1 := by omega
  simp [State.handOver, ReclaimLog.hasRoom, Config.reclaimCapacity, h, State.logWith, State.room, this, State.recordOf,
    State.recordMade]

/-- 06 R108: a hand-over to a full log changes nothing. -/
theorem State.handOver_full (s : State) (e : Entry) (d : List Word) (h : 8 ≤ s.reclaim.records.length) :
    s.handOver e d = s := by
  simp [State.handOver, ReclaimLog.hasRoom, Config.reclaimCapacity, Nat.not_lt.mpr h]

/-- 02 R38: what makes a result's data reclaimable. -/
theorem Entry.reclaimable_iff (e : Entry) (r : Result) :
    e.reclaimable r = true ↔ e.request.access.kind = .read ∧ e.route.readClass = .sensitive ∧ r.status = .ok := by
  simp [Entry.reclaimable, and_assoc]

/-! ### The check sequence -/

/-- 08 R147. -/
theorem State.present_held (s : State) (q : TrunkRequest) (h : s.port.held = true) :
    s.present q = { s with port.answer := some .wait } := by simp [State.present, h, State.answer]

/-- 08 R138 step 1. -/
theorem State.present_malformed (s : State) (q : TrunkRequest) (h : s.port.held = false) (m : q.malformed = true) :
    s.present q = { s with port.answer := some (.fault .form) } := by simp [State.present, h, m, State.answer]

/-- 08 R138 step 2. -/
theorem State.present_aperture (s : State) (q : TrunkRequest) (h : s.port.held = false) (m : q.malformed = false)
    (a : s.inAperture q.address = true) : s.present q = s.apertureRequest q := by simp [State.present, h, m, a]

/-- 08 R138 steps 3 to 9. -/
theorem State.present_outside (s : State) (q : TrunkRequest) (h : s.port.held = false) (m : q.malformed = false)
    (a : s.inAperture q.address = false) : s.present q = s.matchOrPass q := by simp [State.present, h, m, a]

/-- A slot whose live entry has a key. -/
theorem State.liveKey_eq_some (s : State) (i : Slot) (k : Key) :
    s.liveKey i = some k ↔ ∃ e, s.slots.get i = some e ∧ e.live = true ∧ e.request.key = k := by
  unfold State.liveKey
  cases s.slots.get i with
  | none => simp
  | some e => by_cases h : e.live = true <;> simp [h]

/-- 02 R27, R28: the pending match finds nothing exactly when no live entry has the key. -/
theorem State.matchLive_eq_none (s : State) (q : TrunkRequest) :
    s.matchLive q = none ↔ ∀ i : Slot, s.liveKey i ≠ some q.key := by
  simp only [State.matchLive, List.find?_eq_none, List.mem_finRange, true_implies, ne_eq, State.liveKey_eq_some]
  refine forall_congr' fun i => ?_
  cases s.slots.get i with
  | none => simp
  | some e => simp

/-- 02 R27, R28: a slot the pending match finds holds a live entry with the key. -/
theorem State.matchLive_eq_some (s : State) (q : TrunkRequest) (i : Slot) (h : s.matchLive q = some i) :
    s.liveKey i = some q.key := by
  have := List.find?_some h
  rw [State.liveKey_eq_some]
  cases hs : s.slots.get i with
  | none => simp [hs] at this
  | some e => exact ⟨e, rfl, by simpa [hs] using this⟩

/-- 02 R25: under the law of the keys the match finds the slot of a live entry with the key. -/
theorem State.matchLive_of_liveKey (s : State) (q : TrunkRequest) (i : Slot) (u : s.UniqueLiveKeys)
    (h : s.liveKey i = some q.key) : s.matchLive q = some i := by
  cases hm : s.matchLive q with
  | none => exact absurd h ((s.matchLive_eq_none q).mp hm i)
  | some j =>
    by_contra hne
    have hj := s.matchLive_eq_some q j hm
    exact u j i (fun e => hne (by rw [e])) (by rw [hj]; simp) (by rw [hj, h])

end Sys2Proof.Machine
end

