-- ==== Sys2Proof/Laws/Step.lean ====
section
/-! SUPPORT. What a step is: exec of one command, or one microsecond. A law every command keeps, and the passing of time keeps, is a law
every step keeps. -/

namespace Sys2Proof.Machine

/-- A step on a queue with a command in front. -/
theorem step_cons (s : State) (c : Instr) (rest : List Instr) (h : s.pending = c :: rest) :
    step s = exec c { s with pending := rest } := by
  unfold step; rw [h]

/-- A step on an empty queue with an event of the bridge's own due. -/
theorem step_own (s : State) (c : Instr) (h : s.pending = []) (o : s.ownEvent = some c) : step s = exec c s := by
  unfold step; simp only [h, o]

/-- A step on an empty queue with nothing due. -/
theorem step_idle (s : State) (h : s.pending = []) (o : s.ownEvent = none) : step s = .next (s.elapse 1) := by
  unfold step; simp only [h, o]

/-- Every step is exec of one command on the state, with the queue perhaps shorter, or one microsecond. -/
theorem step_cases {s t : State} (h : step s = .next t) :
    (∃ (c : Instr) (queue : List Instr), exec c { s with pending := queue } = .next t) ∨ t = s.elapse 1 := by
  cases hp : s.pending with
  | cons c rest => exact .inl ⟨c, rest, by rw [← step_cons s c rest hp]; exact h⟩
  | nil =>
    cases ho : s.ownEvent with
    | none =>
      rw [step_idle s hp ho] at h
      injection h with h
      exact .inr h.symm
    | some c =>
      rw [step_own s c hp ho] at h
      refine .inl ⟨c, [], ?_⟩
      rw [← hp]; exact h

/-- A property that ignores the queue, that every command keeps and that time keeps, is kept by every step. -/
theorem step_keeps (P : State → Prop) (queue : ∀ (s : State) (q : List Instr), P s → P { s with pending := q })
    (command : ∀ (c : Instr) (s t : State), P s → exec c s = .next t → P t) (time : ∀ s : State, P s → P (s.elapse 1))
    {s t : State} (p : P s) (h : step s = .next t) : P t := by
  rcases step_cases h with ⟨c, q, hc⟩ | rfl
  · exact command c _ t (queue s q p) hc
  · exact time s p

/-- A command under the gate of an aperture write: WAIT, DENIED, or its effect with DONE. -/
theorem gate_cases {P : State → Prop} {s : State} {r : Requester} {f : State → State}
    (kept : ∀ (u : State) (a : Answer), P u → P (u.answer a)) (p : P s) (effect : P (f s)) : P (s.apertureGate r f) := by
  unfold State.apertureGate
  split
  · exact kept _ _ p
  · split
    · exact kept _ _ effect
    · exact kept _ _ p

end Sys2Proof.Machine
end

