-- ==== Sys2Proof/Tests/Slice0.lean ====
section
/-! SUPPORT. The model's own tests: ill-formed operands refused; single steps whose expected values stand in the worked examples of
spec/ (named in each comment); and, for each statement with hypotheses, a concrete state and operands that meet them. -/

namespace Sys2Proof.Tests

open Sys2Proof.Machine

/-! ### Helpers -/

/-- The state after a command. -/
def after (c : Instr) (s : State) : State :=
  match exec c s with
  | .next t => t
  | .fault _ | .refused _ => s

/-- 05 5.9: window 3, NARROW, PLAIN, POSTED, limit 200, reissue count 2, FENCE. -/
def fenceWindow : WindowRecord := ⟨0x00000C01, 0x50000000, 0x01000800, 0x000, 0xFFFF, 0x010200C8, 0⟩

/-- 06 6.7: window 7, NARROW, SENSITIVE, POSTED, requesters 3 and 5, limit 300, SKIP. -/
def latchWindow : WindowRecord := ⟨0x00000C01, 0x48000000, 0x06000100, 0x010, 0x0028, 0x0000012C, 0xEEEEEEEE⟩

/-- 04 4.11: window 11, PAIRED, PLAIN, NONPOSTED, limit 500, SKIP. -/
def pairedWindow : WindowRecord := ⟨0x00000C01, 0x70100000, 0x05002000, 0x101, 0xFFFF, 0x000001F4, 0xDEAD0000⟩

/-- The active table of the three windows. -/
def windows : Vector WindowRecord 16 :=
  Vector.ofFn fun w =>
    match w.val with
    | 3 => fenceWindow
    | 7 => latchWindow
    | 11 => pairedWindow
    | _ => .zero

/-- Out of reset with the three windows active, epoch 12, and the notice engine RUNNING with the ring of 07 7.13. -/
def lab : State :=
  { State.reset with
    window.active := windows
    window.epoch := 12
    notice.state := .running
    notice.ringBase := 0x00200000
    notice.ringOrder := 3
    notice.signalAddress := 0x00100040
    notice.signalValue := 0x21
    notice.signalEnable := true
    notice.ownRequester := 15
    notice.signalArmed := true
    notice.halfArmed := true }

/-- A READ of full words. -/
def readOf (r : Requester) (a : Word) (n : Nat) : TrunkRequest :=
  { requester := r, address := a, access := .read (List.replicate n 0xF) }

/-- A WRITE of full words. -/
def writeOf (r : Requester) (a : Word) (data : List Word) : TrunkRequest :=
  { requester := r, address := a, access := .write (data.map fun d => { mask := 0xF, data := d }) }

/-- An aperture READ at an offset. -/
def view (offset : Word) : Instr := .trunkRequest (readOf 0 (0x0FFF0000 + offset) 1)

/-- An entry of the pending table for a request in an active window. -/
def entryOf (q : TrunkRequest) (w : WindowNo) (phase : Phase) : Entry :=
  { request := q, route := lab.routeOf w q.address, phase := phase }

/-- A posted write of requester 2 to window 3. -/
def post (a : Word) : PostedWrite :=
  { requester := 2, address := a, words := [{ mask := 0xF, data := 5 }], route := lab.routeOf 3 a }

/-- A pending table with the given entries. -/
def slotsOf (l : List (Slot × Entry)) : Vector (Option Entry) 8 := Vector.ofFn fun i => (l.find? (·.1 == i)).map (·.2)

/-- The progress of an item with some cycles done and reissues used. -/
def progressOf (ref : Ref) (it : Item) (done reissues : Nat) (timer : Option Nat) : Progress :=
  { item := ref, cycles := cycleList it.kind it.route it.request.access.laneWords, cyclesDone := done,
    reissuesUsed := reissues, assembly := List.replicate it.request.access.count 0, timer := timer }

/-- 04 4.11: the read of one word with lanes 1 and 2. -/
def partialRead : TrunkRequest := { requester := 9, address := 0x70100024, access := .read [0x6] }

/-- 04 4.11: the write of two words. -/
def pairedWrite : TrunkRequest := writeOf 9 0x70100100 [0xAAAABBBB, 0xCCCCDDDD]

/-- 06 6.7: the read of the latch. -/
def latchRead : TrunkRequest := readOf 3 0x48000008 1

/-- 05 5.9: the read that fences window 3. -/
def fenceRead : TrunkRequest := readOf 1 0x50000010 1

/-- The latch read, complete. -/
def latchResult : Result := { status := .ok, data := [0x8081] }

/-- The entries of `busy`, the first in the given state. -/
def busyEntries (phase : Phase) : List (Slot × Entry) :=
  [ (0, entryOf fenceRead 3 phase), (1, entryOf (readOf 4 0x70100200 1) 11 .queued),
    (2, entryOf (readOf 2 0x50000020 1) 3 .queued), (5, entryOf latchRead 7 (.ready latchResult (some 9))) ]

/-- 05 5.9 at its full list: E0 on the Branch, E1, E2 and two posted writes waiting; with a READY latch read in slot 5. The handshake
timer has `timer` microseconds left and `reissues` reissues are used. -/
def busy (phase : Phase) (reissues timer : Nat) : State :=
  { lab with
    slots := slotsOf (busyEntries phase)
    posts := [post 0x50000030, post 0x50000034]
    branch.issueOrder := [.posted, .entry 1, .entry 2, .posted]
    branch.active := some (progressOf (.entry 0) (entryOf fenceRead 3 phase).item 0 reissues (some timer)) }

/-- One entry on the Branch with nothing behind it. -/
def onBranch (q : TrunkRequest) (w : WindowNo) (phase : Phase) (done : Nat) : State :=
  { lab with
    slots := slotsOf [(0, entryOf q w phase)]
    branch.active := some (progressOf (.entry 0) (entryOf q w phase).item done 0 (some 0)) }

/-- A posted write draining with nothing behind it, its first attempt or a reissue outstanding. -/
def draining (reissues : Nat) : State :=
  { lab with
    posts := [post 0x50000030]
    branch.active := some (progressOf .posted (post 0x50000030).item 0 reissues (some 0)) }

/-- A reclaim record of the latch read. -/
def latchRecord (n : BitVec 16) : ReclaimRecord :=
  { sequence := n, requester := 3, window := 7, epoch := 12, address := 0x48000008, masks := [0xF], timeTag := 0,
    data := [0x8081] }

/-- A state with `n` records in the reclaim log. -/
def withRecords (s : State) (n : Nat) : State :=
  { s with reclaim.records := (List.range n).map fun k => latchRecord (BitVec.ofNat 16 k), reclaim.nextSequence := BitVec.ofNat 16 n }

/-- A notice. -/
def someNotice : Notice :=
  { kind := .cycleSkipped, window := some 3, requester := some 2, epoch := 12, sequence := 37, timeTag := 200, detail := 0x804,
    aux := 0 }

/-- The engine with a write in flight and one notice in its backlog. -/
def inFlight (kind : FlightKind) (waits : Nat) : State :=
  { lab with
    notice.backlog := [someNotice]
    notice.waitCount := waits
    notice.flight := some { kind := kind, presented := { requester := 15, address := 0x00200000, words := someNotice.image } } }

/-! ### Ill-formed operands -/

/-- 09 R150: UNKNOWN_COMMAND is for a code that names no command. -/
theorem test_unknown_command_refuses_a_command_code :
    (Instr.unknownCommand 0 0x01).wellFormed = false ∧ (Instr.unknownCommand 0 0x0D).wellFormed = false
      ∧ (Instr.unknownCommand 0 0x00).wellFormed = true ∧ (Instr.unknownCommand 0 0x0E).wellFormed = true := by decide

/-- 11 11.2: APERTURE_WRITE is for a word-aligned offset without a row of its own. -/
theorem test_aperture_write_refuses_an_own_row_or_a_misaligned_offset :
    (Instr.apertureWrite 0 0x200 1).wellFormed = false ∧ (Instr.apertureWrite 0 0x31C 1).wellFormed = false
      ∧ (Instr.apertureWrite 0 0x402 1).wellFormed = false ∧ (Instr.apertureWrite 0 0x204 1).wellFormed = true := by decide

/-- 08 R140: APERTURE_ACCESS_REFUSED is not for a single-word, full-mask READ. -/
theorem test_refused_access_refuses_an_accepted_read :
    (Instr.apertureAccessRefused (readOf 0 0x0FFF0000 1)).wellFormed = false
      ∧ (Instr.apertureAccessRefused (readOf 0 0x0FFF0000 2)).wellFormed = true := by decide

/-- 09 R152, 11 11.7: the command codes, and none for a code outside the table. -/
theorem test_command_codes :
    Command.ofCode 0x01 = some .commit ∧ Command.ofCode 0x0B = some .branchAbort ∧ Command.ofCode 0x0D = some .bridgeReset
      ∧ Command.ofCode 0x00 = none ∧ Command.ofCode 0x0E = none := by decide

/-! ### The worked examples of spec/ -/

/-- 11 11.3: the record of window 5 of 1.3 alone sums to 0x4304_1064. -/
def exampleWindow : WindowRecord := ⟨0x00001001, 0x40020000, 0x03010000, 0, 0x0000FFFF, 0x00000064, 0⟩

theorem test_check_sum_of_the_example :
    tableSum (Vector.ofFn fun w => if w.val = 5 then exampleWindow else .zero) = 0x43041064 := by decide

/-- 01 1.3: the branch start index of the read at 0x4002_0108, NARROW and PAIRED. -/
theorem test_start_index :
    (exampleWindow.startIndex 0x40020108 = 0x010042)
      ∧ WindowRecord.startIndex { exampleWindow with classMode := 1 } 0x40020108 = 0x010084 := by decide

/-- 01 R14: NARROW order 24 at 0xC0_0000 fits; PAIRED order 16 at 0xFF_9000 does not; PAIRED order 24 at 0x80_0000 fits. -/
theorem test_branch_range :
    WindowRecord.outOfBranch { exampleWindow with control := 0x1801, route := 0x03C00000 } = false
      ∧ WindowRecord.outOfBranch { exampleWindow with route := 0x03FF9000, classMode := 1 } = true
      ∧ WindowRecord.outOfBranch { exampleWindow with control := 0x1801, route := 0x03800000, classMode := 1 } = false := by
  decide

/-- 04 4.11: the take of the partial read: two cycles, at 0x2012 with the high strobe and at 0x2013 with the low one. -/
theorem test_take_partial_read :
    ((after .takeHead (after (.trunkRequest partialRead) lab)).branch.active.map fun p =>
        p.cycles.map fun c => (c.select, c.index, c.lowStrobe, c.highStrobe))
      = some [(5, 0x002012, false, true), (5, 0x002013, true, false)] := by decide

/-- 04 4.11: the ACK of cycle 1 leaves the assembly 0x0000_2200, with one cycle done. -/
theorem test_ack_places_the_strobed_byte :
    ((after (.branchAck 0x2211) (onBranch partialRead 11 .active 0)).branch.active.map fun p => (p.cyclesDone, p.assembly))
      = some (1, [0x00002200]) := by decide

/-- 04 4.11: the ACK of cycle 2 on an empty assembly gives the word 0x0033_0000 and READY. -/
theorem test_ack_of_the_last_cycle :
    ((after (.branchAck 0x4433) (onBranch partialRead 11 .active 1)).slots.get 0).map (·.phase)
      = some (.ready { status := .ok, data := [0x00330000] } (some 16384)) := by decide

/-- 04 4.11: the write of two words gives four cycles with the data 0xBBBB, 0xAAAA, 0xDDDD, 0xCCCC. -/
theorem test_write_cycles :
    (cycleList .write (lab.routeOf 11 0x70100100) pairedWrite.access.laneWords).map (fun c => (c.index, c.data))
      = [(0x002080, some 0xBBBB), (0x002081, some 0xAAAA), (0x002082, some 0xDDDD), (0x002083, some 0xCCCC)] := by decide

/-- 04 4.11: the ERR of cycle 3: FAULT(DEVICE), and CYCLE_ERROR with detail 0x2082 and aux 2. -/
theorem test_err_of_the_third_cycle :
    let t := after .branchErr (onBranch pairedWrite 11 .active 2)
    ((t.slots.get 0).map (·.phase) = some (.ready { status := .fault .device, data := [] } (some 16384)))
      ∧ t.notice.backlog.map (fun n => (n.kind, n.window, n.requester, n.detail, n.aux))
          = [(.cycleError, some 11, some 9, 0x00002082, 2)] := by decide

/-- 05 5.9: a reissue at the first expiry. -/
theorem test_expiry_reissues :
    ((after .handshakeLimitExpiry (busy .active 0 0)).branch.active.map fun p => (p.reissuesUsed, p.timer))
      = some (1, some 200) := by decide

/-- 05 5.9, t = 10,600: WINDOW_FENCED with one entry faulted and two writes dropped; window 3 fenced; the list holds E1. -/
theorem test_expiry_fences :
    let t := after .handshakeLimitExpiry (busy .active 2 0)
    t.window.fences = 0x0008 ∧ t.branch.issueOrder = [.entry 1] ∧ t.posts = []
      ∧ t.notice.backlog.map (fun n => (n.kind, n.window, n.requester)) = [(.windowFenced, some 3, some 1)]
      ∧ t.notice.backlog.map (fun n => (n.epoch, n.detail, n.aux)) = [(12, 0x00000804, 0x0021)] := by decide

/-- 05 5.9, t = 20,000: UNFENCE 3 clears the flag; a second one is refused. -/
theorem test_unfence :
    let t := after (.unfence 0 3) { lab with window.fences := 0x0008 }
    t.window.fences = 0 ∧ (after (.unfence 0 3) t).mgmt.result.reason = .notFenced := by decide

/-- 06 6.7, t = 3054: the hold expiry of the latch read makes a record with the next sequence number, and READ_RECLAIMED. -/
theorem test_hold_expiry_reclaims :
    let t := after (.holdExpiry 5) (({ busy .active 0 9 with reclaim.nextSequence := 41 } : State).elapse 9)
    t.slots.get 5 = none ∧ t.reclaim.records.map (fun r => (r.sequence, r.requester, r.data, r.timeTag)) = [(41, 3, [0x8081], 9)]
      ∧ t.notice.backlog.map (fun n => (n.kind, n.detail, n.aux)) = [(.readReclaimed, 0x48000008, 41)] := by decide

/-- 05 R105, 02 R37: with time left on its timer no expiry is taken, so none passes another timer by. -/
theorem test_no_expiry_with_time_left :
    after (.holdExpiry 5) (busy .active 0 7) = busy .active 0 7 ∧ after .handshakeLimitExpiry (busy .active 0 7) = busy .active 0 7 := by
  decide

/-- 10 R166: an idle timer expiry taken after a soft reset finds its timer restarted; the Branch stays RUNNING. -/
theorem test_idle_expiry_after_soft_reset :
    let t := after (.bridgeReset 0) { lab with mgmt.autoPark := 1, branch.idleTimer := some 0 }
    t.branch.idleTimer = some 1000 ∧ (after .idleTimerExpiry t).branch.power = .running := by decide

/-- 05 R88: the last microsecond of an attempt passes on an empty queue, and its expiry is then the bridge's own event. -/
theorem test_time_reaches_the_limit :
    step (busy .active 0 1) = .next ((busy .active 0 1).elapse 1)
      ∧ ((busy .active 0 1).elapse 1).ownEvent = some .handshakeLimitExpiry := ⟨rfl, by decide⟩

/-- 06 6.7, t = 4000: the late repeat is answered from the record, though no window covers it. -/
theorem test_late_delivery :
    let t := after (.trunkRequest latchRead) { withRecords lab 1 with window.active := Vector.replicate 16 .zero }
    t.port.answer = some (.done [0x8081]) ∧ t.reclaim.records = [] := by decide

/-- 02 2.13: FLUSH with counts freed queued 2 (E1 and E2 of 5.9), reclaimed 1, cancelled 1, discarded 0, and two posted writes left. -/
theorem test_flush_counts :
    (after (.flush 6) (busy .active 0 7)).notice.backlog.map (fun n => (n.kind, n.requester, n.detail, n.aux))
      = [(.pendingFlushed, some 6, 0x00010102, 2)] := by decide

/-- 02 2.12, t = 1010: a write repeat with other data is answered FAULT(CONFLICT). -/
theorem test_conflict :
    (after (.trunkRequest (writeOf 9 0x70100100 [0xAAAABBBB, 0xCCCCDDDE])) (onBranch pairedWrite 11 .active 0)).port.answer
      = some (.fault .conflict) := by decide

/-- 07 7.13, t = 400: the consumer write of 5 at P = 8 is accepted, sets S and H, and the DONE that follows at P = 9, C = 5 generates
RING_HALF with detail 9 and aux 5 and issues the signal. -/
theorem test_consumer_write :
    let t := after (.consumerCounterWrite 0 5) { lab with notice.producer := 8, notice.signalArmed := false, notice.halfArmed := false }
    t.notice.consumer = 5 ∧ t.notice.signalArmed = true ∧ t.notice.halfArmed = true := by decide

theorem test_record_write_done_at_half :
    let t := after .recordWriteDone { inFlight .record 0 with notice.producer := 8, notice.consumer := 5 }
    t.notice.producer = 9 ∧ t.notice.backlog.map (fun n => (n.kind, n.detail, n.aux)) = [(.ringHalf, 9, 5)]
      ∧ t.notice.flight.map (fun f => (f.kind, f.presented.address, f.presented.words)) = some (.signal, 0x00100040, [0x21]) := by
  decide

/-- 07 7.13, t = 500: the write of 14 at P = 13, C = 5 is refused. -/
theorem test_consumer_write_past_the_producer :
    (after (.consumerCounterWrite 0 14) { lab with notice.producer := 13, notice.consumer := 5 }).mgmt.result.reason
      = .badIndex := by decide

/-- 11 11.6: the four words of a record. -/
theorem test_record_image : someNotice.image = [0x0C020303, 0x00000025, 200, 0x00000804] := by decide

/-- 11 11.2, 11.3: the identity word, and a shadow word written and read back. -/
theorem test_aperture_words :
    State.reset.readWord (.ofOffset 0x000) = 0x31400001
      ∧ (after (.apertureWrite 0 0x4A4 0x40020000) State.reset).readWord (.ofOffset 0x4A4) = 0x40020000 := by decide

/-- 11 11.4: word 0 of the pending views of 5.9: slot 0 ACTIVE with one reissue used, slot 2 QUEUED with admission order 3. -/
theorem test_pending_view :
    (busy .active 1 7).readWord (.ofOffset 0x800) = 0x00100112
      ∧ (busy .active 1 7).readWord (.ofOffset 0x880) = 0x03000121 := by decide

/-! ### Concrete states that meet the hypotheses of the statements -/

/-- `busy` with an ERR in front of its queue. -/
def busyErr : State := { busy .active 0 7 with pending := [.branchErr] }

theorem lab_accepts (r : Requester) : lab.accepts r := ⟨rfl, by revert r; decide⟩

/-- A byte of a valid window of `windows` lies in one of the three regions. -/
theorem windows_bytes (w : WindowNo) (a : Nat) (h : (windows.get w).HoldsByte a) :
    (w = 3 ∧ 0x50000000 ≤ a ∧ a ≤ 0x50000FFF) ∨ (w = 7 ∧ 0x48000000 ≤ a ∧ a ≤ 0x48000FFF)
      ∨ (w = 11 ∧ 0x70100000 ≤ a ∧ a ≤ 0x70100FFF) := by
  obtain ⟨v, l, u⟩ := h
  have three : ∀ w : WindowNo, (windows.get w).valid = true → w = 3 ∨ w = 7 ∨ w = 11 := by decide
  rcases three w v with rfl | rfl | rfl
  · exact .inl ⟨rfl, l, u⟩
  · exact .inr (.inl ⟨rfl, l, u⟩)
  · exact .inr (.inr ⟨rfl, l, u⟩)

theorem windows_legal : TableLegal windows := by
  unfold TableLegal WindowRecord.Legal WindowRecord.FieldOk WindowRecord.Aligned WindowRecord.InBranch
    WindowRecord.SensitiveOnce
  decide

/-- The three windows keep the law of the placement, whatever else the state holds. -/
theorem lab_windowsSound : lab.WindowsSound := by
  refine ⟨windows_legal, ⟨?_, ?_, ?_⟩, by decide⟩
  · intro w v a h x y
    rcases windows_bytes w a x with ⟨rfl, _, _⟩ | ⟨rfl, _, _⟩ | ⟨rfl, _, _⟩ <;>
      rcases windows_bytes v a y with ⟨rfl, _, _⟩ | ⟨rfl, _, _⟩ | ⟨rfl, _, _⟩ <;> first | exact h rfl | omega
  · intro w a x y
    have := windows_bytes w a x
    obtain ⟨l, u⟩ := y
    have : lab.mgmt.strap.toNat = 0 := rfl
    omega
  · intro _ w a x y
    have := windows_bytes w a x
    rcases y with ⟨l, u⟩ | ⟨l, u⟩
    · have : lab.notice.ringBase.toNat + 16 * 2 ^ lab.notice.ringOrder.toNat - 1 = 0x0020007F := by decide
      omega
    · have : lab.notice.signalAddress.toNat = 0x00100040 := by decide
      omega

theorem witness_StepTakesFrontCommand : busyErr.pending = [.branchErr] := rfl

theorem busyErr_steps : ∃ t : State, step busyErr = .next t := ⟨_, rfl⟩

theorem witness_StepKeepsUniqueLiveKeys : busyErr.UniqueLiveKeys ∧ ∃ t : State, step busyErr = .next t :=
  ⟨by unfold State.UniqueLiveKeys; decide, busyErr_steps⟩

theorem witness_StepKeepsQuota : busyErr.WithinQuota ∧ ∃ t : State, step busyErr = .next t :=
  ⟨by unfold State.WithinQuota; decide, busyErr_steps⟩

theorem witness_StepKeepsCapacitiesAndRanges :
    busyErr.WithinCapacity ∧ busyErr.SettingsLegal ∧ ∃ t : State, step busyErr = .next t :=
  ⟨by unfold State.WithinCapacity; decide, by unfold State.SettingsLegal; decide, busyErr_steps⟩

theorem witness_StepKeepsItemsTracked : busyErr.ItemsTracked ∧ ∃ t : State, step busyErr = .next t :=
  ⟨by unfold State.ItemsTracked; decide, busyErr_steps⟩

theorem busyErr_progressSound : busyErr.ProgressSound := by
  unfold State.ProgressSound Progress.FitsItem Item.Formed; decide

theorem witness_StepKeepsProgressSound :
    busyErr.ItemsTracked ∧ busyErr.ProgressSound ∧ ∃ t : State, step busyErr = .next t :=
  ⟨by unfold State.ItemsTracked; decide, busyErr_progressSound, busyErr_steps⟩

/-- Window 3 fenced, with window 11's entry alone waiting. -/
theorem witness_StepKeepsFencedWindowsQuiet :
    let s := { busyErr with slots := slotsOf [(1, entryOf (readOf 4 0x70100200 1) 11 .queued)], posts := [], window.fences := 8 }
    s.fenced 3 = true ∧ s.FencedWindowsQuiet ∧ ∃ t : State, step s = .next t :=
  ⟨rfl, by unfold State.FencedWindowsQuiet; decide, ⟨_, rfl⟩⟩

theorem lab_engineSound : lab.EngineSound := by unfold State.EngineSound; decide

theorem witness_StepKeepsWindowsSound : lab.EngineSound ∧ lab.WindowsSound ∧ ∃ t : State, step lab = .next t :=
  ⟨lab_engineSound, lab_windowsSound, ⟨_, rfl⟩⟩

theorem witness_StepKeepsPowerSound : busyErr.PowerSound ∧ ∃ t : State, step busyErr = .next t :=
  ⟨by unfold State.PowerSound; decide, busyErr_steps⟩

/-- A record write in flight at its 64th presentation, with the ring one short of full. -/
theorem witness_StepKeepsNoticeEngineSound :
    let s := { inFlight .record 63 with notice.producer := 7, pending := [.recordWriteDone] }
    s.EngineSound ∧ s.RingSafe ∧ ∃ t : State, step s = .next t :=
  ⟨by unfold State.EngineSound; decide, by unfold State.RingSafe; decide, ⟨_, rfl⟩⟩

theorem witness_ListsStayWithinTheirBounds :
    (busyErr.ItemsTracked ∧ busyErr.WithinCapacity ∧ busyErr.ProgressSound ∧ (entryOf partialRead 11 .queued).item.Formed)
      ∧ let s := busy .active 0 7
        ∃ t : State, s.ItemsTracked ∧ s.ProgressSound ∧ step s = .next t ∧ s.branch.active.map (·.timer) = some (some 7)
          ∧ t.branch.active.map (·.timer) = some (some 6) :=
  ⟨⟨by unfold State.ItemsTracked; decide, by unfold State.WithinCapacity; decide, busyErr_progressSound,
    by unfold Item.Formed; decide⟩, _, by unfold State.ItemsTracked; decide, busyErr_progressSound, rfl, by decide, by decide⟩

theorem witness_OnlyCommitChangesTheActiveTable :
    let s := { lab with window.shadow := windows, mgmt.check := tableSum windows, pending := [.commit 0] }
    ∃ t : State, step s = .next t ∧ t.window.epoch = 13 := ⟨_, rfl, by decide⟩

/-- A flag cleared by UNFENCE, and one set by a FENCE outcome. -/
theorem witness_FenceFlagsChangeByRule :
    (let s := { lab with window.fences := 8, pending := [.unfence 0 3] }
    ∃ t : State, step s = .next t ∧ s.fenced 3 = true ∧ t.fenced 3 = false)
      ∧ let s := { busy .active 2 0 with pending := [.handshakeLimitExpiry] }
        ∃ t : State, step s = .next t ∧ s.fenced 3 = false ∧ t.fenced 3 = true :=
  ⟨⟨_, rfl, by decide⟩, ⟨_, rfl, by decide⟩⟩

theorem witness_ConfigurationChangesByRule :
    let s := { lab with pending := [.requesterQuotaWrite 0 4] }
    let off := { State.reset with pending := [.noticeConfigurationWrite 0 .ringOrder 3] }
    (∃ t : State, step s = .next t ∧ t.port.held = false ∧ s.notice.state ≠ .off ∧ t.mgmt.quota ≠ s.mgmt.quota)
      ∧ ∃ t : State, step off = .next t ∧ t.port.held = false ∧ t.notice.ringOrder ≠ off.notice.ringOrder :=
  ⟨⟨_, rfl, by decide⟩, _, rfl, by decide⟩

theorem witness_ReclaimRecordsKeepTheirOrder :
    let s := { busy .active 0 7 with pending := [.flush 0] }
    ∃ t : State, step s = .next t ∧ t.reclaim.records.length = 1 := ⟨_, rfl, by decide⟩

theorem witness_PostsAndReferencesKeepTheirOrder :
    let s := { lab with pending := [.trunkRequest (writeOf 2 0x50000030 [5])] }
    ∃ t : State, step s = .next t ∧ t.posts.length = 1 := ⟨_, rfl, by decide⟩

theorem witness_OnlyTheAdmittedRequesterIsServed : (withRecords (busy .active 0 7) 2).inAperture 0x48000008 = false := by decide

/-- FAULT(FORM) at the aperture, FAULT(NO_ROUTE), and FAULT(DENIED) in window 7. -/
theorem witness_CheckFaultsChangeNothing :
    lab.inAperture 0x0FFF0FFC = true ∧ (after (view 0xFFE) lab).port.answer = some (.fault .form)
      ∧ (∀ i : Slot, lab.liveKey i ≠ some (readOf 0 0x10000000 1).key)
      ∧ (after (.trunkRequest (readOf 0 0x10000000 1)) lab).port.answer = some (.fault .noRoute)
      ∧ (after (.trunkRequest (readOf 2 0x48000008 1)) lab).port.answer = some (.fault .denied) := by decide

theorem witness_EveryRequestIsAnswered : (after (.hardReset .resetPin) lab).port.held = true := by decide

/-- A command row under reset and from a requester whose bit is clear; a wrong shape; a write refused. -/
theorem witness_TheApertureRefusesAnAccess :
    (Instr.commit 5).wellFormed = true ∧ commandWriter (.commit 5) = some 5
      ∧ (after (.hardReset .resetPin) lab).port.held = true
      ∧ (let s := { lab with mgmt.writeMask := 0xFFDF }
        s.port.held = false ∧ s.mgmt.writeMask.getLsbD 5 = false ∧ s.inAperture 0x0FFF0200 = true
          ∧ (readOf 5 0x0FFF0200 2).access.masks ≠ [0xF]
          ∧ (writeOf 5 0x0FFF0200 [1]).malformed = false ∧ (writeOf 5 0x0FFF0200 [1]).access.masks = [0xF]
          ∧ (writeOf 5 0x0FFF0200 [1]).access.kind = .write) := by decide

/-- The codes 0x00, 0x01, 0x0D and 0x0E. -/
theorem witness_ApertureWritesAreTheirRows :
    (0x00000100#32).toNat % 256 = 0 ∧ (0x00000001#32).toNat % 256 = 0x01 ∧ (0x0000000D#32).toNat % 256 = 0x0D
      ∧ 0x0D < (0x0000000E#32).toNat % 256 := by decide

/-- The eighth word of shadow record 0, a read-only word, and the last offset. -/
theorem witness_PlainApertureWrites :
    lab.accepts 0 ∧ (0x41C#12).toNat % 32 = 28 ∧ (0x0FC#12).toNat < 0x100 ∧ (0x318#12).toNat = 0x318
      ∧ 0x600 ≤ (0xFFC#12).toNat := ⟨lab_accepts 0, by decide⟩

/-- A FREE slot and an occupied one; an empty log and a record at its head; no item, an entry and a posted write ACTIVE. -/
theorem witness_ApertureReadsChangeNothing :
    let s := busy .active 0 7
    (∀ x ∈ [lab, s, withRecords lab 1, draining 0], x.port.held = false)
      ∧ s.slots.get 7 = none ∧ s.slots.get 5 = some (entryOf latchRead 7 (.ready latchResult (some 9)))
      ∧ s.reclaim.records = [] ∧ (withRecords lab 1).reclaim.records = latchRecord 0 :: []
      ∧ lab.branch.active = none ∧ s.branch.active.map (·.item) = some (.entry 0)
      ∧ (draining 0).branch.active.map (·.item) = some .posted ∧ (draining 0).posts = post 0x50000030 :: []
      ∧ ((draining 0).branch.active.bind fun p => p.cycles[p.cyclesDone]?).isSome = true := by decide

/-- Word counts 0 and 9, a misaligned address, a run past the block, and a partial mask among two words. -/
theorem witness_MalformedRequestIsAnsweredForm :
    lab.port.held = false ∧ (readOf 0 0 0).access.count = 0 ∧ 8 < (readOf 0 0 9).access.count
      ∧ (readOf 0 0x50000002 1).address.toNat % 4 ≠ 0
      ∧ 8 < (readOf 0 0x5000001C 2).address.toNat % 32 / 4 + (readOf 0 0x5000001C 2).access.count
      ∧ (1 < (Access.read [0xF, 0xE]).count ∧ ∃ m ∈ (Access.read [0xF, 0xE]).masks, m ≠ 0xF) := by decide

/-- A QUEUED, an ACTIVE and a READY entry, and a write repeat whose top byte differs. -/
theorem witness_RequestIsAnsweredFromItsLiveEntry :
    let s := busy .active 0 7
    s.UniqueLiveKeys ∧ s.port.held = false
      ∧ (∀ q ∈ [fenceRead, readOf 4 0x70100200 1, latchRead], q.malformed = false ∧ s.inAperture q.address = false)
      ∧ (s.slots.get 0).map (fun e => (e.phase, e.request)) = some (.active, fenceRead)
      ∧ (s.slots.get 1).map (·.phase) = some .queued
      ∧ (s.slots.get 5).map (·.phase) = some (.ready latchResult (some 9))
      ∧ ((writeOf 9 0x70100100 [0x00AABBBB, 0xCCCCDDDD]).access.data.getD 0 0).extractLsb' 24 8
          ≠ (pairedWrite.access.data.getD 0 0).extractLsb' 24 8 :=
  ⟨by unfold State.UniqueLiveKeys; decide, by decide⟩

/-- The second of two records matches. -/
theorem witness_LateDeliveryAnswersFromTheOldestRecord :
    let older := { latchRecord 0 with requester := 5 }
    let s := { lab with reclaim.records := [older, latchRecord 1] }
    s.port.held = false ∧ latchRead.malformed = false ∧ s.inAperture latchRead.address = false
      ∧ (∀ i : Slot, s.liveKey i ≠ some latchRead.key) ∧ latchRead.access.kind = .read
      ∧ s.reclaim.records = [older] ++ latchRecord 1 :: [] ∧ (latchRecord 1).requester = latchRead.requester
      ∧ (latchRecord 1).address = latchRead.address ∧ (latchRecord 1).masks = latchRead.access.masks
      ∧ older.requester ≠ latchRead.requester := by decide

/-- `lab` with window 3 fenced. -/
def fencedLab : State := { lab with window.fences := 8 }

/-- No window; the last word of window 7 from requester 2; window 3 fenced. -/
theorem witness_WindowChecksInTheirOrder :
    lab.WindowsSound ∧ fencedLab.WindowsSound
      ∧ (lab.ReachesDecode (readOf 2 0x10000000 1)
          ∧ ∀ w : WindowNo, ¬(lab.window.active.get w).HoldsByte (readOf 2 0x10000000 1).address.toNat)
      ∧ (lab.ReachesDecode (readOf 2 0x48000FFC 1)
          ∧ (lab.window.active.get 7).HoldsByte (readOf 2 0x48000FFC 1).address.toNat
          ∧ (lab.window.active.get 7).permission.getLsbD 2 = false)
      ∧ (fencedLab.ReachesDecode (readOf 2 0x50000000 1)
          ∧ (fencedLab.window.active.get 3).HoldsByte (readOf 2 0x50000000 1).address.toNat
          ∧ (fencedLab.window.active.get 3).permission.getLsbD 2 = true ∧ fencedLab.fenced 3 = true) :=
  ⟨lab_windowsSound, lab_windowsSound, by unfold State.ReachesDecode WindowRecord.HoldsByte; decide⟩

/-- `lab` with every slot holding an entry of another requester. -/
def fullLab : State :=
  { lab with
    slots := Vector.ofFn fun i =>
      some (entryOf (readOf (Fin.ofNat 16 (i.val / 2)) (0x70100000 + BitVec.ofNat 32 (4 * i.val)) 1) 11 .queued) }

/-- `lab` with two live entries of requester 9, its quota. -/
def quotaLab : State :=
  { lab with
    slots := slotsOf
      [ (0, entryOf (readOf 9 0x70100000 1) 11 .queued), (1, entryOf (readOf 9 0x70100004 1) 11 .queued) ] }

/-- The partial read of window 11, with lane 2 set: in `lab` a slot is FREE; `fullLab` and `quotaLab` have no place for it. -/
theorem witness_DelayedAdmission :
    (∀ s ∈ [lab, fullLab, quotaLab], s.WindowsSound)
      ∧ (∀ s ∈ [lab, fullLab, quotaLab], s.ReachesAdmission partialRead 11)
      ∧ (lab.window.active.get 11).laneModeBits = 1 ∧ (lab.window.active.get 11).writeModeBits = 1
      ∧ (∃ m ∈ partialRead.access.masks, m.getLsbD 2 = true) ∧ partialRead.access.kind = .read
      ∧ lab.slots.get 0 = none ∧ lab.liveCount 9 < lab.mgmt.quota.toNat
      ∧ (∀ i : Slot, fullLab.slots.get i ≠ none) ∧ quotaLab.mgmt.quota.toNat ≤ quotaLab.liveCount 9 := by
  refine ⟨?_, by unfold State.ReachesAdmission State.ReachesDecode WindowRecord.HoldsByte; decide, by decide⟩
  simp only [List.mem_cons, List.not_mem_nil, or_false, forall_eq_or_imp, forall_eq]
  exact ⟨lab_windowsSound, lab_windowsSound, lab_windowsSound⟩

/-- `lab` with 16 posted writes. -/
def postedLab (n : Nat) : State := { lab with posts := List.replicate n (post 0x50000030) }

/-- The 16th and the 17th write to window 3. -/
theorem witness_PostedAdmission :
    (postedLab 15).WindowsSound ∧ (postedLab 16).WindowsSound
      ∧ (∀ s ∈ [postedLab 15, postedLab 16], s.ReachesAdmission (writeOf 2 0x50000030 [5]) 3)
      ∧ (∃ m ∈ (writeOf 2 0x50000030 [5]).access.masks, m.getLsbD 1 = true)
      ∧ (lab.window.active.get 3).writeModeBits = 0 ∧ (postedLab 15).posts.length < 16 ∧ 16 ≤ (postedLab 16).posts.length :=
  ⟨lab_windowsSound, lab_windowsSound, by unfold State.ReachesAdmission State.ReachesDecode WindowRecord.HoldsByte; decide⟩

/-- Lanes 2 and 3 of a NARROW window. -/
theorem witness_NoEffectiveLaneIsAnsweredDone :
    let q : TrunkRequest := { requester := 3, address := 0x48000008, access := .read [0xC] }
    lab.WindowsSound ∧ lab.ReachesAdmission q 7 ∧ (lab.window.active.get 7).laneModeBits = 0
      ∧ ∀ m ∈ q.access.masks, m.getLsbD 0 = false ∧ m.getLsbD 1 = false :=
  ⟨lab_windowsSound, by unfold State.ReachesAdmission State.ReachesDecode WindowRecord.HoldsByte; decide⟩

/-- An entry at the head, a posted write at the head, and an item ACTIVE. -/
theorem witness_TakeHeadMakesTheHeadActive :
    let s := { busy .active 0 7 with branch.active := none }
    let t := { s with branch.issueOrder := [.entry 1, .entry 2] }
    s.branch.power = .running ∧ s.branch.active = none ∧ s.branch.issueOrder = .posted :: [.entry 1, .entry 2, .posted]
      ∧ s.posts = post 0x50000030 :: [post 0x50000034]
      ∧ t.branch.active = none ∧ t.branch.issueOrder = .entry 1 :: [.entry 2] ∧ (t.slots.get 1).map (·.phase) = some .queued
      ∧ (busy .active 0 7).branch.active ≠ none := by decide

theorem witness_CycleListFollowsTheLanes :
    (lab.routeOf 3 0x50000010).laneMode = .narrow ∧ (lab.routeOf 11 0x70100024).laneMode = .paired := by decide

/-- The first cycle of the partial read, and the first attempt of 5.9. -/
theorem witness_AckOrReissueCarriesTheItemOn :
    (∃ p ∈ (onBranch partialRead 11 .active 0).branch.active, ∃ c,
        (onBranch partialRead 11 .active 0).OnBranch (.entry 0) p c ∧ c.kind = .read ∧ p.cyclesDone + 1 < p.cycles.length)
      ∧ (∃ p ∈ (busy .active 1 0).branch.active, ∃ c, (busy .active 1 0).OnBranch p.item p c ∧ p.timer = some 0
          ∧ ∃ it ∈ (busy .active 1 0).activeItem p.item, p.reissuesUsed < it.route.reissueCount.toNat) :=
  ⟨⟨_, rfl, _, ⟨rfl, rfl, rfl⟩, by decide⟩, ⟨_, rfl, _, ⟨rfl, rfl, rfl⟩, rfl, by decide⟩⟩

/-- The item on the Branch, its progress, its outstanding cycle and itself, for a state with one ACTIVE item. -/
def HasItem (s : State) (ok : Progress → Item → Prop) : Prop :=
  ∃ p ∈ s.branch.active, ∃ c, s.OnBranch p.item p c ∧ ∃ it ∈ s.activeItem p.item, ok p it

/-- The last cycle of an ACTIVE read, of a CANCELLED latch read with room in the log and with none, of a CANCELLED plain read, and of a
draining write after a reissue. -/
theorem witness_AckOfTheLastCycleEndsTheItemOk :
    let last (p : Progress) (_ : Item) : Prop := p.cyclesDone + 1 = p.cycles.length
    HasItem (onBranch partialRead 11 .active 1) last
      ∧ HasItem (withRecords (onBranch latchRead 7 .cancelled 0) 7) last
      ∧ HasItem (withRecords (onBranch latchRead 7 .cancelled 0) 8) last
      ∧ HasItem (onBranch partialRead 11 .cancelled 1) last
      ∧ HasItem (draining 1) last :=
  ⟨⟨_, rfl, _, ⟨rfl, rfl, rfl⟩, _, rfl, by decide⟩, ⟨_, rfl, _, ⟨rfl, rfl, rfl⟩, _, rfl, by decide⟩,
    ⟨_, rfl, _, ⟨rfl, rfl, rfl⟩, _, rfl, by decide⟩, ⟨_, rfl, _, ⟨rfl, rfl, rfl⟩, _, rfl, by decide⟩,
    ⟨_, rfl, _, ⟨rfl, rfl, rfl⟩, _, rfl, by decide⟩⟩

theorem witness_ErrEndsTheItem :
    HasItem (onBranch pairedWrite 11 .active 2) (fun _ _ => True) ∧ HasItem (onBranch pairedWrite 11 .cancelled 2) (fun _ _ => True)
      ∧ HasItem (draining 0) (fun _ _ => True) ∧ lab.branch.active = none :=
  ⟨⟨_, rfl, _, ⟨rfl, rfl, rfl⟩, _, rfl, trivial⟩, ⟨_, rfl, _, ⟨rfl, rfl, rfl⟩, _, rfl, trivial⟩,
    ⟨_, rfl, _, ⟨rfl, rfl, rfl⟩, _, rfl, trivial⟩, rfl⟩

/-- The last attempt under SKIP of a read and of a write, ACTIVE and CANCELLED; a draining write for BRANCH_ABORT; and no item. -/
theorem witness_SkipAndAbortEndTheItem :
    let skips (p : Progress) (it : Item) : Prop :=
      p.cyclesDone < 16 ∧ p.reissuesUsed < 8 ∧ p.timer = some 0 ∧ p.reissuesUsed = it.route.reissueCount.toNat
        ∧ it.route.finalAction = .skip
    HasItem (onBranch latchRead 7 .active 0) skips ∧ HasItem (onBranch pairedWrite 11 .active 3) skips
      ∧ HasItem (onBranch pairedWrite 11 .cancelled 3) skips ∧ HasItem (onBranch latchRead 7 .cancelled 0) skips
      ∧ HasItem (draining 2) (fun p _ => p.cyclesDone < 16 ∧ p.reissuesUsed < 8)
      ∧ (draining 2).accepts 0 ∧ lab.accepts 0 ∧ lab.branch.active = none :=
  ⟨⟨_, rfl, _, ⟨rfl, rfl, rfl⟩, _, rfl, by decide⟩, ⟨_, rfl, _, ⟨rfl, rfl, rfl⟩, _, rfl, by decide⟩,
    ⟨_, rfl, _, ⟨rfl, rfl, rfl⟩, _, rfl, by decide⟩, ⟨_, rfl, _, ⟨rfl, rfl, rfl⟩, _, rfl, by decide⟩,
    ⟨_, rfl, _, ⟨rfl, rfl, rfl⟩, _, rfl, by decide⟩, lab_accepts 0, lab_accepts 0, rfl⟩

/-- The last attempt under FENCE, with an ACTIVE entry, a CANCELLED one, and a draining write; and one of a retired item. -/
theorem witness_FenceEndsTheItemAndPurges :
    let fences (p : Progress) (it : Item) : Prop :=
      p.timer = some 0 ∧ p.reissuesUsed = it.route.reissueCount.toNat ∧ it.route.finalAction = .fence
    ∀ s ∈ [busy .active 2 0, busy .cancelled 2 0, draining 2, { busy .active 2 0 with window.epoch := 13 }],
      s.ItemsTracked ∧ s.WithinCapacity ∧ HasItem s fences := by
  intro fences
  simp only [List.mem_cons, List.not_mem_nil, or_false, forall_eq_or_imp, forall_eq]
  refine ⟨⟨?_, ?_, _, rfl, _, ⟨rfl, rfl, rfl⟩, _, rfl, by decide⟩, ⟨?_, ?_, _, rfl, _, ⟨rfl, rfl, rfl⟩, _, rfl, by decide⟩,
    ⟨?_, ?_, _, rfl, _, ⟨rfl, rfl, rfl⟩, _, rfl, by decide⟩, ⟨?_, ?_, _, rfl, _, ⟨rfl, rfl, rfl⟩, _, rfl, by decide⟩⟩ <;>
    first
    | (unfold State.ItemsTracked; decide)
    | (unfold State.WithinCapacity; decide)

/-- Nothing due on an empty queue, with a hold, a handshake, a warm-up and an idle timer running; and each of them at zero. -/
theorem witness_TimePassesWhenNothingIsWaitingOrDue :
    let s := busy .active 0 9
    let waking (left : Nat) := { lab with branch.power := .waking, branch.warmUpTimer := some left }
    let resting (left : Nat) := { lab with branch.idleTimer := some left }
    s.port.held = false ∧ s.pending = [] ∧ s.ownEvent = none ∧ s.holdRemaining 5 ≠ some 0
      ∧ (s.branch.active.map (·.timer)) = some (some 9) ∧ (waking 9).branch.warmUpTimer ≠ some 0
      ∧ (resting 1).branch.idleTimer ≠ some 0
      ∧ (busy .active 0 0).pending = [] ∧ ((busy .active 0 0).branch.active.map (·.timer)) = some (some 0)
      ∧ (s.elapse 9).pending = [] ∧ (s.elapse 9).holdRemaining 5 = some 0 ∧ (waking 0).branch.warmUpTimer = some 0
      ∧ (resting 0).branch.idleTimer = some 0 := by decide

/-- A latch read to be kept, with room and with none; a plain read. -/
theorem witness_HoldExpiryDisposesOfTheResult :
    let kept := { lab with slots := slotsOf [(5, entryOf latchRead 7 (.ready latchResult (some 0)))] }
    let plain := { lab with slots := slotsOf [(5, entryOf fenceRead 3 (.ready latchResult (some 0)))] }
    kept.slots.get 5 = some (entryOf latchRead 7 (.ready latchResult (some 0)))
      ∧ latchRead.access.kind = .read ∧ (entryOf latchRead 7 .active).route.readClass = .sensitive ∧ latchResult.status = .ok
      ∧ (withRecords kept 7).reclaim.records.length < 8 ∧ 8 ≤ (withRecords kept 8).reclaim.records.length
      ∧ plain.slots.get 5 = some (entryOf fenceRead 3 (.ready latchResult (some 0)))
      ∧ (entryOf fenceRead 3 .active).route.readClass = .plain := by decide

theorem witness_ParkingTimersExpire :
    ({ lab with branch.power := .waking, branch.warmUpTimer := some 0 } : State).branch.parkAfterWake = false
      ∧ ({ lab with branch.power := .waking, branch.warmUpTimer := some 0, branch.parkAfterWake := true } : State).branch.warmUpTimer
          = some 0
      ∧ lab.branch.warmUpTimer ≠ some 0 ∧ lab.branch.idleTimer ≠ some 0
      ∧ ({ lab with branch.idleTimer := some 0 } : State).branch.idleTimer = some 0 := by decide

/-- RUNNING busy, RUNNING idle, PARKING, PARKED and WAKING. -/
theorem witness_ParkAndWakeByState :
    (busy .active 0 7).accepts 0 ∧ (busy .active 0 7).branch.power = .running ∧ (busy .active 0 7).branch.active ≠ none
      ∧ lab.accepts 0 ∧ lab.branch.power = .running ∧ lab.branch.active = none ∧ lab.branch.issueOrder = []
      ∧ ∀ power : PowerState, ({ lab with branch.power := power } : State).accepts 0 :=
  ⟨lab_accepts 0, rfl, by decide, lab_accepts 0, rfl, rfl, rfl, fun _ => lab_accepts 0⟩

/-- The ring one short of full, full, and the engine OFF. -/
theorem witness_RecordWriteCarriesTheHead :
    let s := { lab with notice.backlog := [someNotice], notice.producer := 7 }
    let full := { s with notice.producer := 8 }
    s.notice.state = .running ∧ s.notice.flight = none ∧ s.notice.backlog = someNotice :: []
      ∧ (s.notice.producer - s.notice.consumer).toNat < 2 ^ s.notice.ringOrder.toNat
      ∧ 2 ^ full.notice.ringOrder.toNat ≤ (full.notice.producer - full.notice.consumer).toNat
      ∧ State.reset.notice.state ≠ .running := by decide

theorem witness_RecordWriteDoneAdvancesTheRing :
    ((inFlight .record 3).notice.flight.map (·.kind) = some .record)
      ∧ (inFlight (.abandoned true false) 0).notice.flight.map (·.kind) = some (.abandoned true false)
      ∧ (inFlight (.abandoned true false) 0).notice.state = .running := by decide

/-- The 63rd and the 64th WAIT. -/
theorem witness_WaitsAndFaultsStallTheEngine :
    ∀ kind ∈ [FlightKind.record, .signal],
      (inFlight kind 62).notice.waitCount < 63 ∧ (inFlight kind 63).notice.waitCount = 63
        ∧ (inFlight kind 63).notice.flight.map (·.kind) = some kind := by decide

/-- The engine OFF with the lab's ring. -/
def stoppedLab : State := { lab with notice.state := .off }

/-- A ring order of 2, a ring at the top of the address space, a ring in window 3, a ring apart, STALLED and RUNNING. -/
theorem witness_NoticeStartByState :
    (∀ s ∈ [stoppedLab, lab], s.port.held = false ∧ s.mgmt.writeMask.getLsbD 0 = true)
      ∧ ({ stoppedLab with notice.ringOrder := 2 } : State).notice.ringOrder.toNat < 3
      ∧ 0xFFFFFFFF < ({ stoppedLab with notice.ringBase := 0xFFFFFF90 } : State).notice.ringBase.toNat + 16 * 2 ^ 3 - 1
      ∧ ({ stoppedLab with notice.ringBase := 0x50000000 } : State).notice.RingByte 0x50000000
      ∧ (stoppedLab.window.active.get 3).HoldsByte 0x50000000
      ∧ (¬∃ a : Nat, stoppedLab.notice.RingByte a
          ∧ (stoppedLab.ApertureByte a ∨ ∃ w : WindowNo, (stoppedLab.window.active.get w).HoldsByte a))
      ∧ ({ lab with notice.state := .stalled, notice.stallReason := .signalFault } : State).notice.state = .stalled
      ∧ lab.notice.state = .running := by
  refine ⟨by decide, by decide, by decide, by unfold NoticeEngine.RingByte; decide, by unfold WindowRecord.HoldsByte; decide, ?_,
    rfl, rfl⟩
  rintro ⟨a, ring, meets⟩
  have apart := lab_windowsSound.2.1
  rcases meets with aperture | ⟨w, inside⟩
  · have base : lab.notice.ringBase.toNat + 16 * 2 ^ lab.notice.ringOrder.toNat - 1 = 0x0020007F := by decide
    have signal : lab.notice.signalAddress.toNat = 0x00100040 := by decide
    have strap : lab.mgmt.strap.toNat = 0 := rfl
    obtain ⟨l, u⟩ := aperture
    rcases ring with ⟨_, u'⟩ | ⟨_, u'⟩
    · have : a ≤ lab.notice.ringBase.toNat + 16 * 2 ^ lab.notice.ringOrder.toNat - 1 := u'
      have : lab.mgmt.strap.toNat * 0x10000000 + 0x0FFF0000 ≤ a := l
      omega
    · have : a ≤ lab.notice.signalAddress.toNat + 3 := u'
      have : lab.mgmt.strap.toNat * 0x10000000 + 0x0FFF0000 ≤ a := l
      omega
  · exact apart.2.2 (by decide) w a inside ring

/-- Abandoned writes of each sort, in OFF and RUNNING. -/
theorem witness_NoticeStopAbandonsTheWrite :
    (inFlight .record 5).accepts 0
      ∧ (let off := { inFlight (.abandoned true false) 0 with notice.state := .off }
        off.notice.flight.map (·.kind) = some (.abandoned true false) ∧ off.notice.state = .off)
      ∧ (inFlight (.abandoned true true) 0).notice.flight.map (·.kind) = some (.abandoned true true)
      ∧ (inFlight (.abandoned true true) 0).notice.state = .running
      ∧ (inFlight (.abandoned false false) 0).notice.flight.map (·.kind) = some (.abandoned false false) :=
  ⟨lab_accepts 0, by decide⟩

/-- In range, at the bounds, and out of range, while OFF; and RUNNING. -/
theorem witness_ConfigurationWriteByState :
    stoppedLab.accepts 0 ∧ stoppedLab.notice.state = .off ∧ lab.accepts 0 ∧ lab.notice.state ≠ .off
      ∧ (0x00200010#32).toNat % 16 = 0 ∧ (3 ≤ (3#32).toNat ∧ (10#32).toNat ≤ 10) ∧ (0xFFFFFFFC#32).toNat % 4 = 0
      ∧ (15 : Requester).val = (15#32).toNat ∧ 15 < (16#32).toNat := ⟨lab_accepts 0, rfl, lab_accepts 0, by decide⟩

/-- At P = 13, C = 5: the writes of 5, of 13 and of 14. -/
theorem witness_ConsumerWriteMovesTowardTheProducer :
    let occupancy (c : Nat) : Nat := (13 + 65536 - c) % 65536
    lab.accepts 0 ∧ occupancy 5 ≤ occupancy 5 ∧ occupancy 13 ≤ occupancy 5 ∧ occupancy 5 < occupancy 14 :=
  ⟨lab_accepts 0, by decide⟩

/-- A shadow of the three windows with its sum staged, and with another staged. -/
def shadowLab : State := { lab with window.shadow := windows, mgmt.check := tableSum windows }

theorem witness_CommitReportsTheFirstFailingCheck :
    shadowLab.shadowSum = shadowLab.mgmt.check ∧ ({ shadowLab with mgmt.check := 0 } : State).shadowSum ≠ 0 := by
  decide +kernel

/-- No check fails; CHECK fails. -/
theorem witness_CommitInstallsOrRejects :
    shadowLab.accepts 0 ∧ shadowLab.commitFailure = none
      ∧ ({ shadowLab with mgmt.check := 0 } : State).commitFailure = some (.check, none) := ⟨lab_accepts 0, by decide⟩

/-- The arguments 16, 3 (set) and 15 (clear). -/
theorem witness_UnfenceClearsItsWindowsFlag :
    fencedLab.accepts 0 ∧ 15 < (16#8).toNat ∧ fencedLab.fenced 3 = true ∧ (15 : WindowNo).val = (15#8).toNat
      ∧ fencedLab.fenced 15 = false := ⟨lab_accepts 0, by decide⟩

theorem witness_FlushEmptiesThePendingTable : (busy .active 0 7).accepts 0 ∧ (busy .active 0 7).ItemsTracked :=
  ⟨lab_accepts 0, by unfold State.ItemsTracked; decide⟩

theorem witness_FlushReclaimsAndReports :
    (withRecords (busy .active 0 7) 8).accepts 0 ∧ (withRecords (busy .active 0 7) 8).undelivered.length = 1
      ∧ (withRecords (busy .active 0 7) 8).room = 0 := ⟨lab_accepts 0, by decide⟩

theorem witness_ReclaimCommandsRemoveRecords :
    (withRecords lab 2).accepts 0 ∧ (withRecords lab 2).reclaim.records = latchRecord 0 :: [latchRecord 1]
      ∧ lab.reclaim.records = [] := ⟨lab_accepts 0, by decide⟩

/-- The bounds of the ranges, the value held, and 256 for the interval. -/
theorem witness_SettingsAreTakenInRange :
    lab.accepts 0 ∧ (1 ≤ (1#32).toNat ∧ (4#32).toNat ≤ 4) ∧ ¬((5#32).toNat ≤ 4) ∧ (65535#32).toNat ≤ 65535
      ∧ ¬((65536#32).toNat ≤ 65535) ∧ (63#32).toNat ≤ 63 ∧ 255 < (256#32).toNat ∧ lab.mgmt.autoPark = 0
      ∧ (255#32).toNat ≤ 255 := ⟨lab_accepts 0, by simp, by simp, by simp, by simp, by simp, by simp, rfl, by simp⟩

theorem witness_RevertTimeSetAndUnknownCommand :
    lab.accepts 0 ∧ (0x00#8) = 0 ∧ 0x0D < (0x0E#8).toNat ∧ 0x0D < (0xFF#8).toNat := ⟨lab_accepts 0, by decide⟩

theorem witness_BridgeResetResetsEveryBlock :
    (inFlight .record 5).accepts 0 ∧ (busy .active 0 7).accepts 0 ∧ ∃ t : State, exec (.bridgeReset 0) (busy .active 0 0) = .next t :=
  ⟨lab_accepts 0, lab_accepts 0, _, rfl⟩

end Sys2Proof.Tests
end

/-! What one step can do to the window table unit and to the areas its windows keep clear of. -/

namespace Sys2Proof.Machine

/-! ### The placement of the windows -/

/-- What the placement of the active windows rests on: the active table with its epoch and fence flags, the aperture's place, the
reset pin, and the notice engine's state and ring. -/
structure Placing where
  active : Vector WindowRecord 16
  epoch : BitVec 8
  fences : BitVec 16
  strap : BitVec 4
  held : Bool
  state : EngineState
  ringBase : Word
  ringOrder : BitVec 4
  signalAddress : Word

/-- The placement a state holds. -/
def State.placing (s : State) : Placing :=
  { active := s.window.active, epoch := s.window.epoch, fences := s.window.fences, strap := s.mgmt.strap, held := s.port.held,
    state := s.notice.state, ringBase := s.notice.ringBase, ringOrder := s.notice.ringOrder,
    signalAddress := s.notice.signalAddress }

/-- Two states with the same window unit, management unit and port, and the same engine state and ring, have one placing. -/
theorem State.placing_eq {s t : State} (window : t.window = s.window) (notice : t.notice = s.notice) (mgmt : t.mgmt = s.mgmt)
    (port : t.port = s.port) : t.placing = s.placing := by
  simp only [State.placing, window, notice, mgmt, port]

/-- A later result was DONE, of the command with this origin. -/
def State.ReportsDone (s t : State) (c : Command) : Prop :=
  t.mgmt.result.origin = .command c ∧ t.mgmt.result.outcome = .done ∧ t.mgmt.result.serial = s.mgmt.result.serial + 1

/-- 07 R126: the notice engine is out of OFF, or presents a write of its own, which it does only out of OFF. -/
def State.EngineOn (s : State) : Prop := s.notice.state ≠ .off ∨ ∃ f ∈ s.notice.flight, f.kind.live = true

/-- Everything one command can do to the placement, with its cause. -/
inductive State.WindowStep (s t : State) : Prop
  | kept (placed : t.placing = s.placing)
  | committed (out : s.port.held = false) (ok : s.commitFailure = none)
      (placed : t.placing = { s.placing with active := s.window.shadow, epoch := s.window.epoch + 1, fences := 0 })
      (result : s.ReportsDone t .commit)
  | unfenced (w : WindowNo) (placed : t.placing = { s.placing with fences := clearFence s.window.fences w })
      (result : s.ReportsDone t .unfence) (value : t.mgmt.result.value.toNat = w.val)
  | softReset
      (placed : t.placing = { s.placing with fences := 0, state := if s.notice.state = .off then .off else .running })
      (result : s.ReportsDone t .bridgeReset)
  | fencedBy (p : Progress) (it : Item) (active : s.branch.active = some p) (item : s.activeItem p.item = some it)
      (current : it.route.epoch = s.window.epoch) (final : it.route.finalAction = .fence) (left : t.branch.active = none)
      (placed : t.placing = { s.placing with fences := setFence s.window.fences it.route.window })
  | engine (state : EngineState) (on : state = .off ∨ s.EngineOn) (placed : t.placing = { s.placing with state := state })
  | started (out : s.port.held = false) (clear : s.ringClashes = false) (placed : t.placing = { s.placing with state := .running })
  | configured (base : Word) (order : BitVec 4) (signal : Word) (off : s.notice.state = .off)
      (placed : t.placing = { s.placing with ringBase := base, ringOrder := order, signalAddress := signal })
  | hardReset (placed : t.placing = ⟨WindowUnit.reset.active, 0, 0, s.mgmt.strap, true, .off, 0, 0, 0⟩)
  | released (strap : BitVec 4) (held : s.port.held = true) (placed : t.placing = { s.placing with strap := strap, held := false })

/-! ### Operations that leave the placement as it is -/

@[simp] theorem State.answer_placing (s : State) (a : Answer) : (s.answer a).placing = s.placing := rfl
@[simp] theorem State.setResult_placing (s : State) (o : Origin) (r : Requester) (c : ResultOutcome) (e : Reason) (v : BitVec 16) :
    (s.setResult o r c e v).placing = s.placing := rfl
@[simp] theorem State.generate_placing (s : State) (e : Event) : (s.generate e).placing = s.placing := rfl
@[simp] theorem State.putEntry_placing (s : State) (i : Slot) (e : Entry) : (s.putEntry i e).placing = s.placing := rfl
@[simp] theorem State.freeEntry_placing (s : State) (i : Slot) : (s.freeEntry i).placing = s.placing := rfl
@[simp] theorem State.appendPost_placing (s : State) (p : PostedWrite) : (s.appendPost p).placing = s.placing := rfl
@[simp] theorem State.recordLanded_placing (s : State) : s.recordLanded.placing = s.placing := rfl
@[simp] theorem State.recordDelivered_placing (s : State) : s.recordDelivered.placing = s.placing := rfl
@[simp] theorem State.purge_placing (s : State) (w : WindowNo) (e : BitVec 8) : (s.purge w e).placing = s.placing := rfl

@[simp] theorem State.becomeIdle_placing (s : State) : s.becomeIdle.placing = s.placing := by
  apply State.placing_eq <;> simp

@[simp] theorem State.enqueue_placing (s : State) (r : Ref) : (s.enqueue r).placing = s.placing := by
  apply State.placing_eq <;> simp

@[simp] theorem State.handOver_placing (s : State) (e : Entry) (d : List Word) : (s.handOver e d).placing = s.placing := by
  apply State.placing_eq <;> simp

@[simp] theorem State.expireWarmUp_placing (s : State) : s.expireWarmUp.placing = s.placing := by
  apply State.placing_eq <;> simp

@[simp] theorem State.ringHalf_placing (s : State) : s.ringHalf.placing = s.placing := by
  unfold State.ringHalf; split <;> rfl

@[simp] theorem State.issueSignal_placing (s : State) : s.issueSignal.placing = s.placing := by
  unfold State.issueSignal; split <;> rfl

@[simp] theorem State.elapse_placing (s : State) (n : Nat) : (s.elapse n).placing = s.placing := by
  simp [State.placing]

@[simp] theorem State.dispose_placing (s : State) (e : Entry) (r : Result) : (s.dispose e r).placing = s.placing := by
  unfold State.dispose
  split
  · split <;> simp
  · simp

@[simp] theorem State.settle_placing (s t : State) : (State.settle s t).placing = t.placing := by
  unfold State.settle; split <;> simp

@[simp] theorem State.ownerTakes_placing (s : State) (r : Ref) (result : Result) : (s.ownerTakes r result).placing = s.placing := by
  cases r with
  | posted => rfl
  | entry i =>
    simp only [State.ownerTakes]
    split
    · split <;> simp
    · rfl

@[simp] theorem State.disposeCancelled_placing (s : State) (e : Option Entry) (r : Result) :
    (s.disposeCancelled e r).placing = s.placing := by
  cases e with
  | none => rfl
  | some e => simp only [State.disposeCancelled]; split <;> simp

@[simp] theorem State.markTaken_placing (s : State) (r : Ref) : (s.markTaken r).placing = s.placing := by cases r <;> rfl

/-! ### Requests outside the aperture -/

@[simp] theorem State.answerEntry_placing (s : State) (i : Slot) (e : Entry) (q : TrunkRequest) :
    (s.answerEntry i e q).placing = s.placing := by
  unfold State.answerEntry
  split
  · simp
  · split <;> simp

@[simp] theorem State.admitDelayed_placing (s : State) (q : TrunkRequest) (route : Route) :
    (s.admitDelayed q route).placing = s.placing := by
  unfold State.admitDelayed; split <;> simp

@[simp] theorem State.admitPosted_placing (s : State) (q : TrunkRequest) (words : List LaneWord) (route : Route) :
    (s.admitPosted q words route).placing = s.placing := by
  unfold State.admitPosted; split <;> simp

@[simp] theorem State.admission_placing (s : State) (q : TrunkRequest) (w : WindowNo) : (s.admission q w).placing = s.placing := by
  simp only [State.admission]
  split
  · simp
  · split
    · simp
    · split <;> simp

@[simp] theorem State.windowRequest_placing (s : State) (q : TrunkRequest) : (s.windowRequest q).placing = s.placing := by
  unfold State.windowRequest
  split
  · simp
  · repeat' split
    all_goals simp

@[simp] theorem State.lateDeliver_placing (s : State) (k : Nat) : (s.lateDeliver k).placing = s.placing := by
  unfold State.lateDeliver; split <;> rfl

@[simp] theorem State.matchOrPass_placing (s : State) (q : TrunkRequest) : (s.matchOrPass q).placing = s.placing := by
  unfold State.matchOrPass State.reclaimOrWindow
  split
  · simp
  · split <;> simp

/-! ### FLUSH and the hand-over of BRIDGE_RESET -/

@[simp] theorem flushSlot_placing (p : State × FlushCounts) (i : Slot) : (flushSlot p i).1.placing = p.1.placing := by
  obtain ⟨s, n⟩ := p
  simp only [flushSlot]
  split
  · rfl
  · split
    · rfl
    · split
      · split <;> simp
      · simp
    · simp
    · rfl

/-- A fold over the slots leaves the placement when each slot does. -/
theorem foldl_placing {α : Type} (f : State × α → Slot → State × α) (each : ∀ p i, (f p i).1.placing = p.1.placing)
    (l : List Slot) (p : State × α) : (l.foldl f p).1.placing = p.1.placing := by
  induction l generalizing p with
  | nil => rfl
  | cons i l ih => rw [List.foldl_cons, ih, each]

@[simp] theorem State.flush_placing (s : State) (r : Requester) : (s.flush r).placing = s.placing := by
  simp [State.flush, State.flushSlots, foldl_placing]

end Sys2Proof.Machine

/-! What BRIDGE_RESET hands to the reclaim log, as one equation over all slots. -/

namespace Sys2Proof.Machine

/-! ### The hand-over of BRIDGE_RESET -/

/-- 02 R38: the read a slot hands to the reclaim log at a FLUSH or a soft reset. -/
def State.undeliveredAt (s : State) (i : Slot) : Option (Entry × List Word) :=
  (s.slots.get i).bind fun e =>
    match e.phase with
    | .ready r _ =>
      if e.request.access.kind = .read ∧ e.route.readClass = .sensitive ∧ r.status = .ok then some (e, r.data) else none
    | _ => none

theorem State.undelivered_eq (s : State) : s.undelivered = (List.finRange 8).filterMap s.undeliveredAt := rfl

/-- 06 R108: one read more, while the log has room. -/
theorem State.logWith_append_room (s : State) (reads : List (Entry × List Word)) (e : Entry) (d : List Word)
    (room : reads.length < s.room) :
    s.logWith (reads ++ [(e, d)]) =
      { records := (s.logWith reads).records ++ [State.recordOf { s with reclaim := s.logWith reads } e d],
        nextSequence := (s.logWith reads).nextSequence + 1 } := by
  have all : reads.take s.room = reads := List.take_of_length_le room.le
  have more : (reads ++ [(e, d)]).take s.room = reads ++ [(e, d)] := List.take_of_length_le (by simp; omega)
  simp only [State.logWith, all, more, List.zipIdx_append, List.map_append, List.length_append, List.length_map,
    List.length_zipIdx, List.append_assoc]
  simp [State.recordMade, State.recordOf, BitVec.ofNat_add, BitVec.add_assoc]

/-- 06 R108: one read more is lost to a full log. -/
theorem State.logWith_append_full (s : State) (reads : List (Entry × List Word)) (x : Entry × List Word)
    (full : s.room ≤ reads.length) : s.logWith (reads ++ [x]) = s.logWith reads := by
  simp only [State.logWith, List.take_append_of_le_length full]

/-- 06 R106: the log after a hand-over has room left as long as the reads handed to it did not fill it. -/
theorem State.logWith_hasRoom (s : State) (reads : List (Entry × List Word)) :
    (s.logWith reads).hasRoom = decide (reads.length < s.room) := by
  simp only [ReclaimLog.hasRoom, State.logWith, State.room, Config.reclaimCapacity, List.length_append, List.length_map,
    List.length_zipIdx, List.length_take]
  exact decide_eq_decide.mpr (by omega)

/-- 02 R45: one slot's part of the hand-over, after some slots. -/
theorem resetSlot_eq (s : State) (reads : List (Entry × List Word)) (i : Slot) :
    resetSlot ({ s with reclaim := s.logWith reads }, reads.length - s.room) i =
      ({ s with reclaim := s.logWith (reads ++ (s.undeliveredAt i).toList) },
        (reads ++ (s.undeliveredAt i).toList).length - s.room) := by
  unfold resetSlot State.undeliveredAt
  cases slot : s.slots.get i with
  | none => simp [slot]
  | some e =>
    cases phase : e.phase with
    | queued | active | cancelled => simp [slot, phase]
    | ready r hold =>
      by_cases give : e.reclaimable r = true
      · have give' := (e.reclaimable_iff r).mp give
        by_cases room : reads.length < s.room
        · simp [slot, phase, give, give', State.handOver, s.logWith_hasRoom, room, s.logWith_append_room _ _ _ room]
          omega
        · simp [slot, phase, give, give', s.logWith_hasRoom, room, s.logWith_append_full _ _ (not_lt.mp room)]
          omega
      · have keep := mt (e.reclaimable_iff r).mpr give
        simp [slot, phase, give, keep]

/-- 02 R45: the hand-over over a list of slots, after some slots. -/
theorem foldl_resetSlot (s : State) (l : List Slot) (reads : List (Entry × List Word)) :
    l.foldl resetSlot ({ s with reclaim := s.logWith reads }, reads.length - s.room) =
      ({ s with reclaim := s.logWith (reads ++ l.filterMap s.undeliveredAt) },
        (reads ++ l.filterMap s.undeliveredAt).length - s.room) := by
  induction l generalizing reads with
  | nil => simp
  | cons i l ih =>
    rw [List.foldl_cons, resetSlot_eq, ih]
    cases read : s.undeliveredAt i <;> simp [read]

/-- 02 R45, first step: the reads handed to the reclaim log and the number lost, over all slots. -/
theorem State.resetHandOver_eq (s : State) :
    s.resetHandOver = ({ s with reclaim := s.logWith s.undelivered }, s.undelivered.length - s.room) := by
  simpa [State.resetHandOver, State.logWith, State.undelivered_eq] using foldl_resetSlot s (List.finRange 8) []

end Sys2Proof.Machine

/-! The ends of items, the aperture writes and every other command, by what each can do to the placement of the windows. -/

namespace Sys2Proof.Machine

/-! ### The end of an item -/

/-- 04 R79: the end of the ACTIVE item, whose engine was busy until now. -/
theorem State.endItem_eq (s : State) (ending : Ending) {p : Progress} {it : Item} (active : s.branch.active = some p)
    (item : s.activeItem p.item = some it) :
    s.endItem ending =
      State.settle s
        (((State.ownerTakes { s with branch.active := none } p.item
            (endResult ending it.request.access it.route.fill p.assembly)).engineReport ending it p
              ((p.outstanding.map (·.index)).getD 0)).disposeCancelled (s.entryOf p.item)
          (endResult ending it.request.access it.route.fill p.assembly)) := by
  simp only [State.endItem, active, item]

/-- 04 R79: with no item ACTIVE, or one that its owner does not hold (log 10), there is no end. -/
theorem State.endItem_cases (s : State) (ending : Ending) :
    s.endItem ending = s ∨ ∃ p it, s.branch.active = some p ∧ s.activeItem p.item = some it := by
  cases active : s.branch.active with
  | none => exact .inl (by simp only [State.endItem, active])
  | some p =>
    cases item : s.activeItem p.item with
    | none => exact .inl (by simp only [State.endItem, active, item])
    | some it => exact .inr ⟨p, it, rfl, item⟩

@[simp] theorem State.settle_active (s t : State) : (State.settle s t).branch.active = t.branch.active := by
  unfold State.settle; split <;> simp

@[simp] theorem State.ownerTakes_branch (s : State) (r : Ref) (result : Result) : (s.ownerTakes r result).branch = s.branch := by
  cases r with
  | posted => rfl
  | entry i =>
    simp only [State.ownerTakes]
    split
    · split <;> simp
    · rfl

@[simp] theorem State.disposeCancelled_branch (s : State) (e : Option Entry) (r : Result) :
    (s.disposeCancelled e r).branch = s.branch := by
  cases e with
  | none => rfl
  | some e => simp only [State.disposeCancelled]; split <;> simp

theorem State.fenceHandling_placing (s : State) (it : Item) (index : BranchIndex) :
    (s.fenceHandling it index).placing =
      if it.route.epoch = s.window.epoch then { s.placing with fences := setFence s.window.fences it.route.window }
      else s.placing := by
  simp only [State.fenceHandling, State.generate_placing, State.purge_placing]
  split <;> rfl

@[simp] theorem State.fenceHandling_active (s : State) (it : Item) (index : BranchIndex) :
    (s.fenceHandling it index).branch.active = s.branch.active := by
  simp only [State.fenceHandling, State.generate_branch, State.purge_active]
  split <;> rfl

theorem State.engineReport_placing (s : State) (ending : Ending) (it : Item) (p : Progress) (index : BranchIndex)
    (unfenced : ending ≠ .fenced) : (s.engineReport ending it p index).placing = s.placing := by
  cases ending with
  | ok => simp only [State.engineReport]; split <;> simp
  | device => rfl
  | skipped aborted => rfl
  | fenced => exact absurd rfl unfenced

@[simp] theorem State.engineReport_active (s : State) (ending : Ending) (it : Item) (p : Progress) (index : BranchIndex) :
    (s.engineReport ending it p index).branch.active = s.branch.active := by
  cases ending with
  | ok => simp only [State.engineReport]; split <;> simp
  | device => rfl
  | skipped aborted => rfl
  | fenced => exact s.fenceHandling_active it index

/-- Every end but FENCE leaves the placement as it is. -/
theorem State.endItem_placing (s : State) (ending : Ending) (unfenced : ending ≠ .fenced) :
    (s.endItem ending).placing = s.placing := by
  rcases s.endItem_cases ending with h | ⟨p, it, active, item⟩
  · rw [h]
  · rw [s.endItem_eq ending active item, settle_placing, disposeCancelled_placing, engineReport_placing _ _ _ _ _ unfenced,
      ownerTakes_placing]
    rfl

/-- 01 R21: the FENCE end sets the flag of the item's window unless the item is retired. -/
theorem State.endItem_fenced_windowStep (s : State) {p : Progress} {it : Item} (active : s.branch.active = some p)
    (item : s.activeItem p.item = some it) (final : it.route.finalAction = .fence) : s.WindowStep (s.endItem .fenced) := by
  have placing : (s.endItem .fenced).placing =
      if it.route.epoch = s.window.epoch then { s.placing with fences := setFence s.window.fences it.route.window }
      else s.placing := by
    rw [s.endItem_eq .fenced active item, settle_placing, disposeCancelled_placing, engineReport, fenceHandling_placing]
    have placed := ownerTakes_placing { s with branch.active := none } p.item
      (endResult .fenced it.request.access it.route.fill p.assembly)
    have epoch := congrArg Placing.epoch placed
    have fences := congrArg Placing.fences placed
    simp only [State.placing] at epoch fences
    rw [epoch, fences, placed]; rfl
  by_cases current : it.route.epoch = s.window.epoch
  · refine .fencedBy p it active item current final ?_ (by rw [placing, if_pos current])
    rw [s.endItem_eq .fenced active item, settle_active, disposeCancelled_branch, engineReport_active, ownerTakes_branch]
  · exact .kept (by rw [placing, if_neg current])

/-- 05 R90: a reissue leaves the placement as it is, and so does SKIP; FENCE is the case above. -/
theorem State.expireHandshake_windowStep (s : State) : s.WindowStep s.expireHandshake := by
  unfold State.expireHandshake
  split
  · exact .kept rfl
  · next p active =>
    split
    · exact .kept rfl
    · next it item =>
      split
      · exact .kept rfl
      · split
        · exact .kept (s.endItem_placing _ (by simp))
        · next final => exact s.endItem_fenced_windowStep active item final

/-! ### Commands -/

/-- Neither the queue nor the answer given is part of the placement. -/
theorem State.WindowStep.congr {s t : State} {q : List Instr} {a : Option Answer}
    (h : State.WindowStep { s with pending := q } t) : s.WindowStep { t with port.answer := a } := by
  cases h with
  | kept placed => exact .kept placed
  | committed out ok placed result => exact .committed out ok placed result
  | unfenced w placed result value => exact .unfenced w placed result value
  | softReset placed result => exact .softReset placed result
  | fencedBy p it active item current final left placed => exact .fencedBy p it active item current final left placed
  | engine state on placed => exact .engine state on placed
  | started out clear placed => exact .started out clear placed
  | configured base order signal off placed => exact .configured base order signal off placed
  | hardReset placed => exact .hardReset placed
  | released strap held placed => exact .released strap held placed

/-- The gate's answer is no part of the placement. -/
theorem State.WindowStep.answer {s t : State} (h : s.WindowStep t) (a : Answer) : s.WindowStep (t.answer a) :=
  State.WindowStep.congr (q := s.pending) (a := some a) h

/-- An aperture write steps as its effect does out of hard reset; else it only gives an answer. -/
theorem State.apertureGate_windowStep (s : State) (r : Requester) (f : State → State)
    (effect : s.port.held = false → s.WindowStep (f s)) : s.WindowStep (s.apertureGate r f) := by
  unfold State.apertureGate
  split
  · exact .kept rfl
  · next out =>
    split
    · exact (effect (by simpa using out)).answer _
    · exact .kept rfl

/-- 01 R10, R11. -/
theorem State.commit_windowStep (s : State) (r : Requester) (out : s.port.held = false) : s.WindowStep (s.commit r) := by
  unfold State.commit
  split
  · next ok => exact .committed out ok rfl ⟨rfl, rfl, rfl⟩
  · exact .kept rfl

/-- 05 R102. -/
theorem State.unfence_windowStep (s : State) (r : Requester) (argument : BitVec 8) : s.WindowStep (s.unfence r argument) := by
  unfold State.unfence
  split
  · next named =>
    split
    · exact .unfenced ⟨argument.toNat, named⟩ rfl ⟨rfl, rfl, rfl⟩ (by simp; omega)
    · exact .kept rfl
  · exact .kept rfl

/-- 07 R122, R127. -/
theorem State.noticeStart_windowStep (s : State) (r : Requester) (out : s.port.held = false) : s.WindowStep (s.noticeStart r) := by
  unfold State.noticeStart
  split
  · split
    · exact .kept rfl
    · split
      · exact .kept rfl
      · next clear => exact .started out (by simpa using clear) rfl
  · next stalled => exact .engine .running (.inr (.inl (by simp [stalled]))) rfl
  · exact .kept rfl

/-- 05 R100. -/
theorem State.branchAbort_placing (s : State) (r : Requester) : (s.branchAbort r).placing = s.placing := by
  unfold State.branchAbort
  split
  · exact s.endItem_placing _ (by simp)
  · rfl

/-- 10 R162. -/
theorem State.park_placing (s : State) (r : Requester) : (s.park r).placing = s.placing := by
  unfold State.park; split <;> rfl

/-- 10 R163. -/
theorem State.wake_placing (s : State) (r : Requester) : (s.wake r).placing = s.placing := by
  unfold State.wake; split <;> rfl

/-- 06 R114. -/
theorem State.reclaimPop_placing (s : State) (r : Requester) : (s.reclaimPop r).placing = s.placing := by
  unfold State.reclaimPop; split <;> rfl

/-- 09 R159, 07 R134: BRIDGE_RESET, with the hand-over done. -/
theorem State.bridgeReset_eq (s : State) (r : Requester) :
    s.bridgeReset r =
      ((State.softResetBlocks { s with reclaim := s.logWith s.undelivered }).generate
        (s.resetEvent r (s.undelivered.length - s.room))).resultDone (.command .bridgeReset) r 0 := by
  simp only [State.bridgeReset, s.resetHandOver_eq]

/-- 09 R159, 01 R23: BRIDGE_RESET clears every fence flag and leaves the table and its epoch. -/
theorem State.bridgeReset_windowStep (s : State) (r : Requester) : s.WindowStep (s.bridgeReset r) := by
  rw [s.bridgeReset_eq r]
  exact .softReset rfl ⟨rfl, rfl, rfl⟩

/-- 09 R154: a setting is no part of the placement. -/
theorem State.settingWrite_placing (r : Requester) (inRange : Bool) (taken : State → State) (s : State)
    (same : (taken s).placing = s.placing) : (State.settingWrite r inRange taken s).placing = s.placing := by
  unfold State.settingWrite
  split
  · exact same
  · rfl

theorem State.writeSetting_placing (s : State) (r : Requester) (which : Setting) (v : Word) :
    (s.writeSetting r which v).placing = s.placing := by
  cases which with
  | requesterQuota | holdLimit | writeMask | warmUp => exact s.settingWrite_placing r _ _ rfl
  | autoPark =>
    apply State.settingWrite_placing
    split <;> rfl

/-- 07 R122: the configuration takes a value in OFF alone. -/
theorem State.configWrite_windowStep (s : State) (r : Requester) (field : ConfigField) (v : Word) :
    s.WindowStep (s.configWrite r field v) := by
  unfold State.configWrite
  split
  · next off =>
    split
    · cases field <;> exact .configured _ _ _ off rfl
    · exact .kept rfl
  · exact .kept rfl

theorem State.consumerWrite_placing (s : State) (r : Requester) (v : Word) : (s.consumerWrite r v).placing = s.placing := by
  simp only [State.consumerWrite]; split <;> rfl

theorem State.takeCommand_windowStep (s : State) (r : Requester) (argument : BitVec 8) (c : Command)
    (out : s.port.held = false) : s.WindowStep (s.takeCommand r argument c) := by
  cases c with
  | commit => exact s.commit_windowStep r out
  | revert | reclaimClear | timeSet => exact .kept rfl
  | unfence => exact s.unfence_windowStep r argument
  | flush => exact .kept (s.flush_placing r)
  | reclaimPop => exact .kept (s.reclaimPop_placing r)
  | noticeStart => exact s.noticeStart_windowStep r out
  | noticeStop => exact .engine .off (.inl rfl) rfl
  | park => exact .kept (s.park_placing r)
  | wake => exact .kept (s.wake_placing r)
  | branchAbort => exact .kept (s.branchAbort_placing r)
  | bridgeReset => exact s.bridgeReset_windowStep r

theorem State.commandWrite_windowStep (s : State) (r : Requester) (code argument : BitVec 8) (out : s.port.held = false) :
    s.WindowStep (s.commandWrite r code argument) := by
  unfold State.commandWrite
  split
  · exact s.takeCommand_windowStep r argument _ out
  · exact .kept rfl

theorem State.writeWord_windowStep (s : State) (r : Requester) (word : ApertureWord) (v : Word) (out : s.port.held = false) :
    s.WindowStep (s.writeWord r word v) := by
  cases word with
  | setting which => exact .kept (s.writeSetting_placing r which v)
  | command => exact s.commandWrite_windowStep r _ _ out
  | config field => exact s.configWrite_windowStep r field v
  | consumer => exact .kept (s.consumerWrite_placing r v)
  | _ => exact .kept rfl

/-- 08 R138: a request changes the placement through the aperture alone. -/
theorem State.present_windowStep (s : State) (q : TrunkRequest) : s.WindowStep (s.present q) := by
  unfold State.present
  split
  · exact .kept rfl
  · split
    · exact .kept rfl
    · split
      · unfold State.apertureRequest
        split
        · unfold State.apertureAccess
          split
          · exact .kept rfl
          · exact s.apertureGate_windowStep _ _ (s.writeWord_windowStep _ _ _)
          · exact .kept rfl
        · exact .kept rfl
      · exact .kept (s.matchOrPass_placing q)

/-! ### Every command -/

/-- 07 R125, R128: a WAIT keeps the engine's state or stalls it. -/
theorem State.writeWait_windowStep (s : State) (reason : StallReason) (on : s.EngineOn) : s.WindowStep (s.writeWait reason) := by
  simp only [State.writeWait]
  split
  · exact .kept rfl
  · exact .engine .stalled (.inr on) rfl

/-- A write of the engine's own is in flight. -/
theorem State.engineOn_of_flightKind (s : State) {kind : FlightKind} (flight : s.flightKind = some kind) (live : kind.live = true) :
    s.EngineOn := by
  obtain ⟨f, presented, rfl⟩ := Option.map_eq_some_iff.mp flight
  exact .inr ⟨f, presented, live⟩

theorem State.abandonedDone_placing (s : State) (restarted : Bool) : (s.abandonedDone restarted).placing = s.placing := by
  unfold State.abandonedDone
  split
  · rfl
  · split
    · rfl
    · simp
  · split <;> rfl

/-- A row that has its effect on a condition and else changes nothing. -/
theorem State.windowStep_ite {s u : State} {c : Prop} [Decidable c] (effect : c → s.WindowStep u) :
    ∃ t : State, (if c then .next u else .next s : Host.Outcome State Fault Refusal) = .next t ∧ s.WindowStep t := by
  split
  · next holds => exact ⟨u, rfl, effect holds⟩
  · exact ⟨s, rfl, .kept rfl⟩

/-- 02 R37. -/
theorem State.expireHold_placing (s : State) (i : Slot) : (s.expireHold i).placing = s.placing := by
  unfold State.expireHold
  split
  · split <;> simp
  · rfl

/-- 04 R69. -/
theorem execTakeHead_windowStep (s : State) : ∃ t : State, execTakeHead s = .next t ∧ s.WindowStep t := by
  unfold execTakeHead
  split
  · exact ⟨_, rfl, .kept (s.markTaken_placing _)⟩
  · exact ⟨_, rfl, .kept rfl⟩

/-- 04 R76. -/
theorem execBranchAck_windowStep (data : HalfWord) (s : State) :
    ∃ t : State, execBranchAck data s = .next t ∧ s.WindowStep t := by
  unfold execBranchAck
  split
  · exact ⟨_, rfl, .kept rfl⟩
  · split
    · exact ⟨_, rfl, .kept rfl⟩
    · dsimp only
      split
      · exact ⟨_, rfl, .kept rfl⟩
      · exact ⟨_, rfl, .kept (State.endItem_placing _ _ (by simp))⟩

/-- 07 R124. -/
theorem execRecordWrite_windowStep (s : State) : ∃ t : State, execRecordWrite s = .next t ∧ s.WindowStep t := by
  unfold execRecordWrite
  split
  · exact State.windowStep_ite fun _ => .kept rfl
  · exact ⟨_, rfl, .kept rfl⟩

/-- 07 R131. -/
theorem execAbandonedWriteAnswer_windowStep (answer : WriteAnswer) (s : State) :
    ∃ t : State, execAbandonedWriteAnswer answer s = .next t ∧ s.WindowStep t := by
  unfold execAbandonedWriteAnswer
  split
  · split
    · exact ⟨_, rfl, .kept (s.abandonedDone_placing _)⟩
    · exact ⟨_, rfl, .kept rfl⟩
  · exact ⟨_, rfl, .kept rfl⟩

/-- 08 R140. -/
theorem execApertureAccessRefused_windowStep (q : TrunkRequest) (s : State) :
    ∃ t : State, execApertureAccessRefused q s = .next t ∧ s.WindowStep t := by
  unfold execApertureAccessRefused
  split
  · exact ⟨_, rfl, .kept rfl⟩
  · split <;> exact ⟨_, rfl, .kept rfl⟩

/-- A row that an aperture write carries. -/
theorem State.windowStep_gate (s : State) (r : Requester) (f : State → State)
    (effect : s.port.held = false → s.WindowStep (f s)) :
    ∃ t : State, (.next (s.apertureGate r f) : Host.Outcome State Fault Refusal) = .next t ∧ s.WindowStep t :=
  ⟨_, rfl, s.apertureGate_windowStep r f effect⟩

/-- Whatever the command, the placement changes in one of the ways of `State.WindowStep`. -/
theorem exec_windowStep (c : Instr) (s : State) : ∃ t : State, exec c s = .next t ∧ s.WindowStep t := by
  cases c with
  | trunkRequest q => exact ⟨_, rfl, s.present_windowStep q⟩
  | apertureWrite r offset v => exact ⟨_, rfl, s.present_windowStep _⟩
  | apertureAccessRefused q => exact execApertureAccessRefused_windowStep q s
  | takeHead => exact execTakeHead_windowStep s
  | branchAck data => exact execBranchAck_windowStep data s
  | branchErr => exact ⟨_, rfl, .kept (s.endItem_placing _ (by simp))⟩
  | handshakeLimitExpiry => exact State.windowStep_ite fun _ => s.expireHandshake_windowStep
  | holdExpiry i => exact State.windowStep_ite fun _ => .kept (s.expireHold_placing i)
  | warmUpExpiry => exact State.windowStep_ite fun _ => .kept s.expireWarmUp_placing
  | idleTimerExpiry => exact State.windowStep_ite fun _ => .kept rfl
  | recordWrite => exact execRecordWrite_windowStep s
  | recordWriteDone => exact State.windowStep_ite fun _ => .kept (by simp)
  | recordWriteWait =>
    exact State.windowStep_ite fun flight => s.writeWait_windowStep _ (s.engineOn_of_flightKind flight rfl)
  | recordWriteFault code =>
    exact State.windowStep_ite fun flight => .engine .stalled (.inr (s.engineOn_of_flightKind flight rfl)) rfl
  | signalWriteDone => exact State.windowStep_ite fun _ => .kept rfl
  | signalWriteWait =>
    exact State.windowStep_ite fun flight => s.writeWait_windowStep _ (s.engineOn_of_flightKind flight rfl)
  | signalWriteFault code =>
    exact State.windowStep_ite fun flight => .engine .stalled (.inr (s.engineOn_of_flightKind flight rfl)) rfl
  | abandonedWriteAnswer answer => exact execAbandonedWriteAnswer_windowStep answer s
  | commit r => exact s.windowStep_gate r _ (s.commit_windowStep r)
  | revert r | reclaimClear r | timeSet r => exact s.windowStep_gate r _ fun _ => .kept rfl
  | unfence r argument => exact s.windowStep_gate r _ fun _ => s.unfence_windowStep r argument
  | flush r => exact s.windowStep_gate r _ fun _ => .kept (s.flush_placing r)
  | reclaimPop r => exact s.windowStep_gate r _ fun _ => .kept (s.reclaimPop_placing r)
  | noticeStart r => exact s.windowStep_gate r _ (s.noticeStart_windowStep r)
  | noticeStop r => exact s.windowStep_gate r _ fun _ => .engine .off (.inl rfl) rfl
  | park r => exact s.windowStep_gate r _ fun _ => .kept (s.park_placing r)
  | wake r => exact s.windowStep_gate r _ fun _ => .kept (s.wake_placing r)
  | branchAbort r => exact s.windowStep_gate r _ fun _ => .kept (s.branchAbort_placing r)
  | bridgeReset r => exact s.windowStep_gate r _ fun _ => s.bridgeReset_windowStep r
  | unknownCommand r code => exact s.windowStep_gate r _ (s.commandWrite_windowStep r code 0)
  | requesterQuotaWrite r v => exact s.windowStep_gate r _ fun _ => .kept (s.writeSetting_placing r .requesterQuota v)
  | holdLimitWrite r v => exact s.windowStep_gate r _ fun _ => .kept (s.writeSetting_placing r .holdLimit v)
  | managementWriteMaskWrite r v => exact s.windowStep_gate r _ fun _ => .kept (s.writeSetting_placing r .writeMask v)
  | warmUpWrite r v => exact s.windowStep_gate r _ fun _ => .kept (s.writeSetting_placing r .warmUp v)
  | autoParkIntervalWrite r v => exact s.windowStep_gate r _ fun _ => .kept (s.writeSetting_placing r .autoPark v)
  | noticeConfigurationWrite r field v => exact s.windowStep_gate r _ fun _ => s.configWrite_windowStep r field v
  | consumerCounterWrite r v => exact s.windowStep_gate r _ fun _ => .kept (s.consumerWrite_placing r v)
  | hardReset cause => exact ⟨_, rfl, .hardReset rfl⟩
  | hardResetRelease strap => exact State.windowStep_ite fun held => .released strap held rfl

/-- A step changes the placement in one of the ways of `State.WindowStep`. -/
theorem step_windowStep {s t : State} (h : step s = .next t) : s.WindowStep t := by
  rcases step_cases h with ⟨c, q, hc⟩ | rfl
  · obtain ⟨u, hu, change⟩ := exec_windowStep c { s with pending := q }
    obtain rfl : u = t := by rw [hu] at hc; injection hc
    exact change.congr (a := u.port.answer)
  · exact .kept (s.elapse_placing 1)

end Sys2Proof.Machine

/-! The COMMIT checks: each test of the model against the rule it stands for, and the first failing one. -/

namespace Sys2Proof.Machine

/-! ### Areas of byte addresses -/

theorem shareByte_iff {first₁ last₁ first₂ last₂ : Nat} (some₁ : first₁ ≤ last₁) (some₂ : first₂ ≤ last₂) :
    shareByte first₁ last₁ first₂ last₂ = true ↔ ∃ a, (first₁ ≤ a ∧ a ≤ last₁) ∧ first₂ ≤ a ∧ a ≤ last₂ := by
  simp only [shareByte, Bool.and_eq_true, decide_eq_true_eq]
  constructor
  · rintro ⟨h₁, h₂⟩
    exact ⟨max first₁ first₂, by omega⟩
  · rintro ⟨a, h⟩
    omega

theorem WindowRecord.first_le_last (r : WindowRecord) : r.first ≤ r.last := by
  have := Nat.two_pow_pos r.sizeOrder
  simp only [WindowRecord.first, WindowRecord.last]; omega

theorem WindowRecord.holdsByte_iff (r : WindowRecord) (a : Nat) :
    r.HoldsByte a ↔ r.valid = true ∧ r.first ≤ a ∧ a ≤ r.last := Iff.rfl

/-- 01 R15: two valid regions share a byte. -/
theorem WindowRecord.overlaps_iff (r q : WindowRecord) : r.overlaps q = true ↔ ∃ a, r.HoldsByte a ∧ q.HoldsByte a := by
  simp only [WindowRecord.overlaps, WindowRecord.meets, Bool.and_eq_true, shareByte_iff r.first_le_last q.first_le_last,
    WindowRecord.holdsByte_iff]
  tauto

/-- 01 R15, 09 R148: an area shares a byte with the aperture. -/
theorem State.meetsAperture_iff (s : State) {first last : Nat} (area : first ≤ last) :
    s.meetsAperture first last = true ↔ ∃ a, (first ≤ a ∧ a ≤ last) ∧ s.ApertureByte a := by
  have base : s.apertureBase ≤ s.apertureBase + Config.apertureSize - 1 := by
    simp only [Config.apertureSize]; omega
  rw [State.meetsAperture, shareByte_iff area base]
  refine exists_congr fun a => and_congr_right fun _ => ?_
  simp only [State.ApertureByte, State.apertureBase, Config.apertureStride, Config.apertureOffset, Config.apertureSize]
  omega

/-- 01 R15: an area shares a byte with the ring or the signal address word. -/
theorem NoticeEngine.meetsRing_iff (n : NoticeEngine) {first last : Nat} (area : first ≤ last) :
    n.meetsRing first last = true ↔ ∃ a, (first ≤ a ∧ a ≤ last) ∧ n.RingByte a := by
  have ring : n.ringBase.toNat ≤ n.ringLast := by
    have := Nat.two_pow_pos n.ringOrder.toNat
    simp only [NoticeEngine.ringLast, NoticeEngine.ringSize]; omega
  rw [NoticeEngine.meetsRing, Bool.or_eq_true, shareByte_iff area ring, shareByte_iff area (by omega), ← exists_or]
  refine exists_congr fun a => ?_
  simp only [NoticeEngine.RingByte, NoticeEngine.ringLast, NoticeEngine.ringSize]
  tauto

/-! ### The eight COMMIT checks -/

/-- 01 R12: the sum of the defined shadow words. -/
theorem State.tableSum_shadow (s : State) : tableSum s.window.shadow = s.shadowSum := by
  have record (r : WindowRecord) : ((List.finRange 7).map fun k => r.word k.castSucc).sum = r.sum := by
    simp [List.finRange_succ, WindowRecord.word, WindowRecord.sum, BitVec.add_assoc]
  have table (l : List WindowNo) (n : Word) :
      (l.map fun w => (s.window.shadow.get w).sum).foldl (· + ·) n =
        n + (l.flatMap fun w => (List.finRange 7).map fun k => (s.window.shadow.get w).word k.castSucc).sum := by
    induction l generalizing n with
    | nil => simp
    | cons w l ih =>
      rw [List.map_cons, List.foldl_cons, ih, List.flatMap_cons, List.sum_append, record, BitVec.add_assoc]
  rw [tableSum, table, State.shadowSum]
  exact BitVec.zero_add _

/-- 01 R13. -/
theorem WindowRecord.fieldBad_iff (r : WindowRecord) : r.fieldBad = true ↔ ¬r.FieldOk := by
  have two (b : BitVec 2) : b = 1 ↔ b.toNat = 1 := by rw [← BitVec.toNat_inj]; rfl
  simp only [WindowRecord.fieldBad, WindowRecord.FieldOk, Bool.or_eq_true, Bool.and_eq_true, decide_eq_true_eq, beq_iff_eq,
    bne_iff_ne, Bool.not_eq_true', ne_eq, two]
  cases r.unusedClear with
  | false => simp
  | true => simp; omega

/-- 01 R14. -/
theorem WindowRecord.misaligned_iff (r : WindowRecord) : r.misaligned = true ↔ ¬r.Aligned := by
  simp [WindowRecord.misaligned, WindowRecord.Aligned, Nat.dvd_iff_mod_eq_zero]

/-- 01 R14: for a record that passed FIELD, whose lane mode names NARROW or PAIRED. -/
theorem WindowRecord.outOfBranch_iff (r : WindowRecord) (ok : r.FieldOk) : r.outOfBranch = true ↔ ¬r.InBranch := by
  obtain ⟨⟨large, -⟩, -, ⟨mode, -⟩, -⟩ := ok
  have double : 2 * 2 ^ (r.sizeOrder - 2) = 2 ^ (r.sizeOrder - 1) := by
    rw [← Nat.pow_succ']; congr 1; omega
  have modes : r.laneModeBits = 0 ∨ r.laneModeBits = 1 := by
    rw [← BitVec.toNat_inj, ← BitVec.toNat_inj]; simp; omega
  rcases modes with narrow | paired
  · simp [WindowRecord.outOfBranch, WindowRecord.InBranch, WindowRecord.halfWords, WindowRecord.laneMode, narrow,
      LaneMode.halves, Config.branchSpace]
    omega
  · simp [WindowRecord.outOfBranch, WindowRecord.InBranch, WindowRecord.halfWords, WindowRecord.laneMode, paired,
      LaneMode.halves, Config.branchSpace, double]
    omega

/-- 01 R16. -/
theorem WindowRecord.sensitiveReissues_iff (r : WindowRecord) : r.sensitiveReissues = true ↔ ¬r.SensitiveOnce := by
  simp [WindowRecord.sensitiveReissues, WindowRecord.SensitiveOnce]

/-- 01 R11: the window reported is the lowest that fails. -/
theorem lowestWindow_eq_some (p : WindowNo → Bool) (w : WindowNo) :
    lowestWindow p = some w ↔ p w = true ∧ ∀ v < w, p v = false := by
  rw [lowestWindow, List.find?_eq_some_iff_getElem]
  constructor
  · rintro ⟨holds, i, hi, rfl, before⟩
    refine ⟨holds, fun v lt => ?_⟩
    simpa using before v.val (by simpa [Fin.lt_def] using lt)
  · rintro ⟨holds, before⟩
    exact ⟨holds, w.val, by simp, by simp, fun j lt => by simpa using before ⟨j, by omega⟩ lt⟩

theorem lowestWindow_eq_none (p : WindowNo → Bool) : lowestWindow p = none ↔ ∀ w, p w = false := by
  simp [lowestWindow]

/-- The model's test of one shadow window for one of the checks 2 to 8. -/
def State.checkFails (s : State) (reason : Reason) (w : WindowNo) : Bool :=
  let r := s.window.shadow.get w
  match reason with
  | .field => r.valid && r.fieldBad
  | .align => r.valid && r.misaligned
  | .branchRange => r.valid && r.outOfBranch
  | .overlap => overlapsAnother s.window.shadow w
  | .aperture => r.valid && s.meetsAperture r.first r.last
  | .ring => s.notice.state != .off && (r.valid && s.notice.meetsRing r.first r.last)
  | .sensitiveReissue => r.valid && r.sensitiveReissues
  | _ => false

/-- 01 R11: checks 2 to 8 are the tests in `commitOrder`. -/
theorem State.windowChecks_eq (s : State) :
    s.windowChecks = commitOrder.map fun reason => (reason, lowestWindow (s.checkFails reason)) := by
  have ring : (if s.notice.state = .off then none else s.lowestShadow fun r => s.notice.meetsRing r.first r.last)
      = lowestWindow (s.checkFails .ring) := by
    have test : s.checkFails .ring = fun w => s.notice.state != .off
        && ((s.window.shadow.get w).valid
          && s.notice.meetsRing (s.window.shadow.get w).first (s.window.shadow.get w).last) := rfl
    by_cases off : s.notice.state = .off
    · rw [if_pos off, (lowestWindow_eq_none _).mpr fun w => by simp [test, off]]
    · have on : (s.notice.state != .off) = true := by simpa using off
      simp only [if_neg off, test, on, Bool.true_and, State.lowestShadow]
  simp only [State.windowChecks, ring]
  rfl

/-- 01 R11: a test fails exactly where the rule's check does, once no window fails FIELD. -/
theorem State.checkFails_iff (s : State) (reason : Reason) (w : WindowNo)
    (field : reason = .branchRange → ¬s.FailsAt .field w) : s.checkFails reason w = true ↔ s.FailsAt reason w := by
  have area := (s.window.shadow.get w).first_le_last
  cases reason with
  | field => simp [State.checkFails, State.FailsAt, WindowRecord.fieldBad_iff]
  | align => simp [State.checkFails, State.FailsAt, WindowRecord.misaligned_iff]
  | sensitiveReissue => simp [State.checkFails, State.FailsAt, WindowRecord.sensitiveReissues_iff]
  | branchRange =>
    simp only [State.checkFails, State.FailsAt, Bool.and_eq_true]
    refine and_congr_right fun valid => WindowRecord.outOfBranch_iff _ ?_
    by_contra bad
    exact field rfl ⟨valid, bad⟩
  | overlap => simp [State.checkFails, State.FailsAt, overlapsAnother, WindowRecord.overlaps_iff]
  | aperture =>
    simp only [State.checkFails, State.FailsAt, Bool.and_eq_true, s.meetsAperture_iff area, WindowRecord.holdsByte_iff,
      and_assoc, exists_and_left]
  | ring =>
    simp only [State.checkFails, State.FailsAt, Bool.and_eq_true, s.notice.meetsRing_iff area, WindowRecord.holdsByte_iff,
      and_assoc, exists_and_left, bne_iff_ne]
  | _ => simp [State.checkFails, State.FailsAt]

/-- The first of some checks that a window fails. -/
def firstFailure (p : Reason → WindowNo → Bool) (l : List Reason) : Option (Reason × Option WindowNo) :=
  (l.map fun reason => (reason, lowestWindow (p reason))).find? fun c => c.2.isSome

theorem firstFailure_cons_pass (p : Reason → WindowNo → Bool) (r : Reason) (l : List Reason)
    (pass : lowestWindow (p r) = none) :
    firstFailure p (r :: l) = firstFailure p l := by
  simp [firstFailure, pass]

theorem firstFailure_cons_fail (p : Reason → WindowNo → Bool) (r : Reason) (l : List Reason) (w : WindowNo)
    (fail : lowestWindow (p r) = some w) : firstFailure p (r :: l) = some (r, some w) := by
  simp [firstFailure, fail]

theorem firstFailure_eq_none (p : Reason → WindowNo → Bool) (l : List Reason) :
    firstFailure p l = none ↔ ∀ reason ∈ l, ∀ w, p reason w = false := by
  simp only [firstFailure, List.find?_eq_none, List.mem_map, forall_exists_index, and_imp, forall_apply_eq_imp_iff₂,
    Bool.not_eq_true, Option.isSome_eq_false_iff, Option.isNone_iff_eq_none, lowestWindow_eq_none]

theorem firstFailure_eq_some (p : Reason → WindowNo → Bool) (l : List Reason) (reason : Reason) (w : WindowNo) :
    firstFailure p l = some (reason, some w) ↔
      reason ∈ l ∧ p reason w = true ∧ (∀ v < w, p reason v = false)
        ∧ ∀ earlier ∈ l.takeWhile (· != reason), ∀ v, p earlier v = false := by
  induction l with
  | nil => simp [firstFailure]
  | cons r l ih =>
    cases lowest : lowestWindow (p r) with
    | none =>
      have pass := (lowestWindow_eq_none _).mp lowest
      rw [firstFailure_cons_pass p r l lowest, ih]
      by_cases same : r = reason
      · subst same; simp [pass]
      · simp [pass, same, Ne.symm same]
    | some v =>
      rw [firstFailure_cons_fail p r l v lowest]
      by_cases same : r = reason
      · subst same; simp [← lowestWindow_eq_some, lowest]
      · have fails := ((lowestWindow_eq_some _ _).mp lowest).1
        refine iff_of_false (by simp [same]) fun ⟨_, _, _, earlier⟩ => ?_
        simp [earlier r (by simp [same]) v] at fails

/-- 01 R11: the reasons that name a window. -/
theorem State.FailsAt.mem_commitOrder {s : State} {reason : Reason} {w : WindowNo} (h : s.FailsAt reason w) :
    reason ∈ commitOrder := by
  cases reason with
  | field | align | branchRange | overlap | aperture | ring | sensitiveReissue => simp [commitOrder]
  | _ => exact h.elim

theorem State.commitFailure_of_sum (s : State) (sum : s.shadowSum = s.mgmt.check) :
    s.commitFailure = firstFailure s.checkFails commitOrder := by
  rw [State.commitFailure, s.tableSum_shadow, if_neg (by simpa using sum), s.windowChecks_eq, firstFailure]

/-- 01 R10, R11: a COMMIT succeeds when the sum is right and no window fails a check. -/
theorem State.commitFailure_eq_none (s : State) (sum : s.shadowSum = s.mgmt.check) :
    s.commitFailure = none ↔ ∀ (reason : Reason) (w : WindowNo), ¬s.FailsAt reason w := by
  rw [s.commitFailure_of_sum sum, firstFailure_eq_none]
  constructor
  · intro pass reason w fails
    have field (v : WindowNo) : ¬s.FailsAt .field v := fun bad => by
      simpa [pass .field bad.mem_commitOrder v] using (s.checkFails_iff .field v (by simp)).mpr bad
    simpa [pass reason fails.mem_commitOrder w] using (s.checkFails_iff reason w fun _ => field w).mpr fails
  · intro pass reason _ w
    rw [Bool.eq_false_iff]
    exact fun fails => pass reason w ((s.checkFails_iff reason w fun _ => pass .field w).mp fails)

/-- 01 R11: with the right sum the reason and window of the first failing check, at the lowest window that fails it. -/
theorem State.commitFailure_eq_some (s : State) (sum : s.shadowSum = s.mgmt.check) (reason : Reason) (w : WindowNo) :
    s.commitFailure = some (reason, some w) ↔
      s.FailsAt reason w ∧ (∀ v < w, ¬s.FailsAt reason v)
        ∧ ∀ earlier ∈ commitOrder.takeWhile (· != reason), ∀ v, ¬s.FailsAt earlier v := by
  rw [s.commitFailure_of_sum sum, firstFailure_eq_some]
  have fieldIff (v : WindowNo) : s.checkFails .field v = true ↔ s.FailsAt .field v := s.checkFails_iff .field v (by simp)
  by_cases isField : reason = .field
  · subst isField
    simp [commitOrder, ← fieldIff]
  · have earlier : Reason.field ∈ commitOrder.takeWhile (· != reason) := by
      simp [commitOrder, List.takeWhile_cons, Ne.symm isField]
    by_cases field : ∀ v, ¬s.FailsAt .field v
    · have every (r : Reason) (v : WindowNo) : s.checkFails r v = true ↔ s.FailsAt r v := s.checkFails_iff r v fun _ => field v
      simp only [Bool.eq_false_iff, ne_eq, every]
      exact ⟨fun ⟨_, rest⟩ => rest, fun rest => ⟨rest.1.mem_commitOrder, rest⟩⟩
    · refine iff_of_false (fun ⟨_, _, _, pass⟩ => field fun v bad => ?_) fun ⟨_, _, pass⟩ => field (pass _ earlier)
      simpa [pass _ earlier v] using (fieldIff v).mpr bad

/-- Settles O52: the checks are searched in their order, each with its lowest failing window. -/
theorem commitReportsTheFirstFailingCheck : Obligations.CommitReportsTheFirstFailingCheck := by
  intro s
  refine ⟨fun sum => ?_, fun sum => ⟨s.commitFailure_eq_none sum, s.commitFailure_eq_some sum⟩⟩
  rw [State.commitFailure, s.tableSum_shadow, if_pos sum]

end Sys2Proof.Machine

/-! The law on the placement of the windows, and what the active table and the fence flags change by. -/

namespace Sys2Proof.Machine

/-! ### The law on the placement of the windows -/

/-- 01 R13 to R16: a COMMIT that finds no failure finds a shadow table that is legal and apart. -/
theorem State.shadow_sound (s : State) (ok : s.commitFailure = none) :
    TableLegal s.window.shadow ∧ s.TableApart s.window.shadow := by
  have sum : s.shadowSum = s.mgmt.check := by
    by_contra differs
    simp [State.commitFailure, s.tableSum_shadow, differs] at ok
  have pass := (s.commitFailure_eq_none sum).mp ok
  refine ⟨fun w valid => ⟨?_, ?_, ?_, ?_⟩, ?_, ?_, ?_⟩
  · by_contra bad; exact pass .field w ⟨valid, bad⟩
  · by_contra bad; exact pass .align w ⟨valid, bad⟩
  · by_contra bad; exact pass .branchRange w ⟨valid, bad⟩
  · by_contra bad; exact pass .sensitiveReissue w ⟨valid, bad⟩
  · exact fun w v a differ inW inV => pass .overlap w ⟨v, differ.symm, a, inW, inV⟩
  · exact fun w a inW inAperture => pass .aperture w ⟨a, inW, inAperture⟩
  · exact fun on w a inW inRing => pass .ring w ⟨on, a, inW, inRing⟩

/-- 07 R122: an engine that may start finds its ring and signal word clear of the valid windows. -/
theorem State.ring_clear (s : State) (clear : s.ringClashes = false) (w : WindowNo) (a : Nat)
    (inW : (s.window.active.get w).HoldsByte a) : ¬s.notice.RingByte a := by
  intro inRing
  obtain ⟨valid, area⟩ := inW
  have meets := (s.notice.meetsRing_iff (s.window.active.get w).first_le_last).mpr ⟨a, area, inRing⟩
  simp only [State.ringClashes, Bool.or_eq_false_iff, List.any_eq_false] at clear
  obtain ⟨-, windows⟩ := clear
  exact windows w (List.mem_finRange w) (by rw [valid, meets]; rfl)

/-- 01 R15: whether a table is apart rests on the strap, the engine's state and, out of OFF, the ring. -/
theorem State.TableApart.of_same {s t : State} {table : Vector WindowRecord 16} (h : s.TableApart table)
    (strap : t.mgmt.strap = s.mgmt.strap)
    (ring : t.notice.state ≠ .off → s.notice.state ≠ .off ∧ ∀ a, t.notice.RingByte a → s.notice.RingByte a) :
    t.TableApart table := by
  obtain ⟨pairs, aperture, clear⟩ := h
  refine ⟨pairs, fun w a inW => ?_, fun on w a inW inRing => ?_⟩
  · have := aperture w a inW
    rwa [State.ApertureByte, strap]
  · exact clear (ring on).1 w a inW ((ring on).2 a inRing)

/-- 01 R22: after hard reset no active record is valid. -/
theorem WindowUnit.reset_invalid (w : WindowNo) : (WindowUnit.reset.active.get w).valid = false := by
  simp [WindowUnit.reset, Vector.get_eq_getElem, WindowRecord.zero, WindowRecord.valid]

/-- With no valid window nothing is out of place. -/
theorem State.windowsSound_of_none_valid (s : State) (invalid : ∀ w : WindowNo, (s.window.active.get w).valid = false)
    (off : s.port.held = true → s.notice.state = .off) : s.WindowsSound := by
  have empty (w : WindowNo) (a : Nat) : ¬(s.window.active.get w).HoldsByte a := fun h => absurd h.1 (by simp [invalid w])
  refine ⟨fun w valid => by simp [invalid w] at valid, ⟨?_, ?_, ?_⟩, fun held => ⟨off held, invalid⟩⟩
  · exact fun w _ a _ inW => absurd inW (empty w a)
  · exact fun w a inW => absurd inW (empty w a)
  · exact fun _ w a inW => absurd inW (empty w a)

/-- The law is kept when the table, the strap and the reset pin are, and the engine is on with the same ring or off. -/
theorem State.WindowsSound.of_same {s t : State} (h : s.WindowsSound) (active : t.window.active = s.window.active)
    (strap : t.mgmt.strap = s.mgmt.strap) (held : t.port.held = s.port.held)
    (ring : t.notice.state ≠ .off → s.notice.state ≠ .off ∧ ∀ a, t.notice.RingByte a → s.notice.RingByte a) :
    t.WindowsSound := by
  obtain ⟨legal, apart, quiet⟩ := h
  refine ⟨by rwa [active], by rw [active]; exact apart.of_same strap ring, fun pin => ?_⟩
  obtain ⟨off, invalid⟩ := quiet (held ▸ pin)
  refine ⟨?_, by rwa [active]⟩
  by_contra on
  exact (ring on).1 off

/-- The law is kept when only the fence flags and the engine's state change, the engine not leaving OFF. -/
theorem State.WindowsSound.of_placed {s t : State} {fences : BitVec 16} {state : EngineState} (h : s.WindowsSound)
    (placed : t.placing = { s.placing with fences := fences, state := state }) (on : state ≠ .off → s.notice.state ≠ .off) :
    t.WindowsSound := by
  simp only [State.placing, Placing.mk.injEq] at placed
  obtain ⟨active, -, -, strap, held, state, base, order, signal⟩ := placed
  refine h.of_same active strap held fun running => ⟨on (state ▸ running), fun a inRing => ?_⟩
  simpa only [NoticeEngine.RingByte, base, order, signal] using inRing

/-- 07 R126: a sound engine in OFF presents no write. -/
theorem State.EngineOn.state {s : State} (on : s.EngineOn) (engine : s.EngineSound) : s.notice.state ≠ .off := by
  intro off
  rcases on with on | ⟨f, flight, live⟩
  · exact on off
  · obtain ⟨-, -, idle, -⟩ := engine
    simp [(idle off).2 f flight] at live

/-- 01 R15: each way the placement can change keeps the law. -/
theorem State.WindowStep.windowsSound {s t : State} (change : s.WindowStep t) (engine : s.EngineSound) (h : s.WindowsSound) :
    t.WindowsSound := by
  cases change with
  | kept placed => exact h.of_placed placed id
  | unfenced w placed => exact h.of_placed placed id
  | softReset placed =>
    refine h.of_placed placed fun running off => ?_
    simp [off] at running
  | fencedBy p it active item current final left placed => exact h.of_placed placed id
  | engine state on placed =>
    exact h.of_placed placed fun running => (on.resolve_left running).state engine
  | committed out ok placed =>
    simp only [State.placing, Placing.mk.injEq] at placed
    obtain ⟨active, -, -, strap, held, state, base, order, signal⟩ := placed
    obtain ⟨legal, apart⟩ := s.shadow_sound ok
    refine ⟨by rwa [active], ?_, fun pin => by simp [held, out] at pin⟩
    rw [active]
    refine apart.of_same strap fun on => ⟨state ▸ on, fun a inRing => ?_⟩
    simpa only [NoticeEngine.RingByte, base, order, signal] using inRing
  | started out clear placed =>
    simp only [State.placing, Placing.mk.injEq] at placed
    obtain ⟨active, -, -, strap, held, state, base, order, signal⟩ := placed
    obtain ⟨legal, ⟨pairs, aperture, -⟩, -⟩ := h
    refine ⟨by rwa [active], ?_, fun pin => by simp [held, out] at pin⟩
    rw [active]
    refine ⟨pairs, fun w a inW => ?_, fun _ w a inW inRing => s.ring_clear clear w a inW ?_⟩
    · have := aperture w a inW
      rwa [State.ApertureByte, strap]
    · simpa only [NoticeEngine.RingByte, base, order, signal] using inRing
  | configured base order signal off placed =>
    simp only [State.placing, Placing.mk.injEq] at placed
    obtain ⟨active, -, -, strap, held, state, -⟩ := placed
    exact h.of_same active strap held fun on => absurd (state.trans off) on
  | hardReset placed =>
    simp only [State.placing, Placing.mk.injEq] at placed
    obtain ⟨active, -, -, -, -, state, -⟩ := placed
    exact t.windowsSound_of_none_valid (by rw [active]; exact WindowUnit.reset_invalid) fun _ => state
  | released strap held placed =>
    simp only [State.placing, Placing.mk.injEq] at placed
    obtain ⟨active, -, -, -, -, state, -⟩ := placed
    obtain ⟨-, -, quiet⟩ := h
    obtain ⟨off, invalid⟩ := quiet held
    exact t.windowsSound_of_none_valid (by rwa [active]) fun _ => state.trans off

/-- Settles O11: by the ways a step can change the placement. -/
theorem stepKeepsWindowsSound : Obligations.StepKeepsWindowsSound :=
  fun _ _ engine sound step => (step_windowStep step).windowsSound engine sound

/-! ### What the active table and the fence flags change by -/

/-- Settles O15: by the ways a step can change the placement. -/
theorem onlyCommitChangesTheActiveTable : Obligations.OnlyCommitChangesTheActiveTable := by
  intro s t step
  cases step_windowStep step with
  | committed out ok placed result =>
    obtain ⟨origin, outcome, serial⟩ := result
    exact .inr (.inl ⟨congrArg Placing.active placed, congrArg Placing.epoch placed, congrArg Placing.fences placed, origin,
      outcome, serial⟩)
  | hardReset placed =>
    have active : t.window.active = _ := congrArg Placing.active placed
    exact .inr (.inr ⟨congrArg Placing.held placed, congrArg Placing.epoch placed,
      by rw [active]; exact WindowUnit.reset_invalid⟩)
  | kept placed | unfenced _ placed | softReset placed | fencedBy _ _ _ _ _ _ _ placed | engine _ _ placed | started _ _ placed
  | configured _ _ _ _ placed | released _ _ placed =>
    exact .inl ⟨congrArg Placing.active placed, congrArg Placing.epoch placed⟩

theorem oneHot_getLsbD (w v : WindowNo) : (1#16 <<< w.val).getLsbD v.val = (v == w) := by
  revert w v; decide

/-- 01 R20: setting a window's flag. -/
theorem setFence_getLsbD (fences : BitVec 16) (w v : WindowNo) :
    (setFence fences w).getLsbD v.val = (fences.getLsbD v.val || v == w) := by
  rw [setFence, BitVec.getLsbD_or, oneHot_getLsbD]

/-- 01 R20: clearing a window's flag. -/
theorem clearFence_getLsbD (fences : BitVec 16) (w v : WindowNo) :
    (clearFence fences w).getLsbD v.val = (fences.getLsbD v.val && v != w) := by
  rw [clearFence, BitVec.getLsbD_and, BitVec.getLsbD_not, oneHot_getLsbD]
  simp [bne]

/-- Settles O16: by the ways a step can change the placement. -/
theorem fenceFlagsChangeByRule : Obligations.FenceFlagsChangeByRule := by
  intro s t w step
  have same (placed : t.window.fences = s.window.fences) : t.fenced w = s.fenced w := by simp only [State.fenced, placed]
  have cleared (placed : t.window.fences = 0) : t.fenced w = false := by simp [State.fenced, placed]
  cases step_windowStep step with
  | committed out ok placed result =>
    obtain ⟨origin, outcome, serial⟩ := result
    refine ⟨fun _ _ => .inr ⟨outcome, serial, .inl origin⟩, fun _ set => ?_⟩
    simp [cleared (congrArg Placing.fences placed)] at set
  | softReset placed result =>
    obtain ⟨origin, outcome, serial⟩ := result
    refine ⟨fun _ _ => .inr ⟨outcome, serial, .inr (.inl origin)⟩, fun _ set => ?_⟩
    simp [cleared (congrArg Placing.fences placed)] at set
  | hardReset placed =>
    refine ⟨fun _ _ => .inl (congrArg Placing.held placed), fun _ set => ?_⟩
    simp [cleared (congrArg Placing.fences placed)] at set
  | unfenced v placed result value =>
    obtain ⟨origin, outcome, serial⟩ := result
    have fences : t.window.fences = clearFence s.window.fences v := congrArg Placing.fences placed
    have flag : t.fenced w = (s.fenced w && w != v) := by simp only [State.fenced, fences, clearFence_getLsbD]
    refine ⟨fun set clear => .inr ⟨outcome, serial, .inr (.inr ⟨origin, ?_⟩)⟩, fun clear set => ?_⟩
    · obtain rfl : w = v := by simpa [flag, set] using clear
      exact value
    · simp [flag, clear] at set
  | fencedBy p it active item current final left placed =>
    have fences : t.window.fences = setFence s.window.fences it.route.window := congrArg Placing.fences placed
    have flag : t.fenced w = (s.fenced w || w == it.route.window) := by simp only [State.fenced, fences, setFence_getLsbD]
    refine ⟨fun set clear => ?_, fun clear set => ⟨left, p, active, it, item, ?_, current, final⟩⟩
    · simp [flag, set] at clear
    · have : w = it.route.window := by simpa [flag, clear] using set
      exact this.symm
  | kept placed | engine _ _ placed | started _ _ placed | configured _ _ _ _ placed | released _ _ placed =>
    rw [same (congrArg Placing.fences placed)]
    exact ⟨fun set clear => absurd set (by simp [clear]), fun clear set => absurd set (by simp [clear])⟩

end Sys2Proof.Machine

/-! The whole next state of COMMIT, REVERT, TIME_SET, UNKNOWN_COMMAND and BRIDGE_RESET. -/

namespace Sys2Proof.Machine

/-! ### COMMIT, REVERT, TIME_SET and UNKNOWN_COMMAND -/

/-- 11 R168: the aux of TABLE_REJECTED, the reason in bits 3:0 and the window in bits 15:8. -/
theorem auxTableRejected_eq (reason : Reason) (w : Option WindowNo) :
    auxTableRejected reason w = BitVec.ofNat 16 (Reason.code reason + 256 * orNone w) := by
  have low : Reason.code reason < 16 := by cases reason <;> decide
  have high : orNone w < 256 := by
    cases w with
    | none => simp [orNone, Config.noneCode]
    | some x => simp only [orNone, Option.map_some, Option.getD_some]; omega
  apply BitVec.eq_of_toNat_eq
  have first := bits_toNat 0 4 (Reason.code reason) (by omega)
  rw [auxTableRejected, auxOf, BitVec.toNat_setWidth, or_bits_toNat _ 8 8 _ (by omega) (by omega), first, BitVec.toNat_ofNat]
  omega

/-- Settles O53: with COMMIT's two cases written as notices and results. -/
theorem commitInstallsOrRejects : Obligations.CommitInstallsOrRejects := by
  refine ⟨rfl, fun s r accepted => ⟨fun ok => ?_, fun reason w failed => ?_⟩⟩
  · have run : s.commit r = (s.install.generate (s.committedEvent r)).resultDone (.command .commit) r
        ((s.window.epoch + 1).setWidth 16) := by simp only [State.commit, ok]
    simp only [exec, execCommit, s.apertureGate_accepted r _ accepted, run, State.resultDone_answer, State.generate_eq_notified,
      State.committedEvent, State.fenceCount, List.countP_eq_length_filter, State.install]
  · have run : s.commit r = (s.generate (s.rejectedEvent r reason w)).resultRefused (.command .commit) r reason
        (BitVec.ofNat 16 (orNone w)) := by simp only [State.commit, failed]
    simp only [exec, execCommit, s.apertureGate_accepted r _ accepted, run, State.resultRefused_answer,
      State.generate_eq_notified, State.rejectedEvent, auxTableRejected_eq, s.tableSum_shadow]
    cases w <;> rfl

/-- 11 11.7: the codes that name no command. -/
theorem Command.ofCode_eq_none {code : BitVec 8} (h : code = 0 ∨ 0x0D < code.toNat) : Command.ofCode code = none := by
  have codes (c : Command) : c.code ≠ 0 ∧ c.code.toNat ≤ 0x0D := by cases c <;> decide
  rw [Command.ofCode, List.find?_eq_none]
  intro c _ named
  obtain rfl : c.code = code := by simpa using named
  obtain ⟨nonzero, low⟩ := codes c
  rcases h with zero | high
  · exact nonzero zero
  · omega

/-- Settles O59: each command's effect under the gate. -/
theorem revertTimeSetAndUnknownCommand : Obligations.RevertTimeSetAndUnknownCommand := by
  intro s r accepted
  refine ⟨?_, ?_, fun code unnamed => ?_⟩
  · rw [exec, execRevert, s.apertureGate_accepted r _ accepted]; rfl
  · rw [exec, execTimeSet, s.apertureGate_accepted r _ accepted]; rfl
  · rw [exec, execUnknownCommand, s.apertureGate_accepted r _ accepted, State.commandWrite, Command.ofCode_eq_none unnamed]; rfl

/-! ### BRIDGE_RESET -/

/-- 02 R45, R46: no slot is occupied. -/
theorem noSlots_get (i : Slot) : (Vector.replicate 8 (none : Option Entry)).get i = none := by simp [Vector.get_eq_getElem]

/-- 11 R168: the detail of BRIDGE_RESET. -/
theorem detailBridgeReset_eq (posts lost : Nat) :
    detailBridgeReset posts lost = BitVec.ofNat 32 (posts % 65536 + 65536 * lost) := by
  apply BitVec.eq_of_toNat_eq
  have first := bits_toNat 0 16 posts (by omega)
  rw [detailBridgeReset, or_bits_toNat _ 16 16 _ (by omega) (by omega), first, BitVec.toNat_ofNat]
  omega

/-- 07 R133: a write in flight is abandoned. -/
theorem map_abandon_eq (f : Option Flight) : f.map Flight.abandon = flightAbandoned f := by
  cases f with
  | none => rfl
  | some f =>
    obtain ⟨kind, presented⟩ := f
    cases kind <;> rfl

/-- 07 R127. -/
theorem StallReason.onSignal_eq (reason : StallReason) :
    reason.onSignal = (reason == .signalFault || reason == .signalWaitLimit) := by
  cases reason <;> rfl

/-- 10 R164: an idle timer that starts has time left. -/
theorem idleStart_ne_zero (interval : BitVec 8) : idleStart interval ≠ some 0 := by
  unfold idleStart
  split
  · simp
  · next nonzero =>
    have : interval.toNat ≠ 0 := fun h => nonzero (BitVec.eq_of_toNat_eq h)
    simp [Config.millisecond, this]

/-- Settles O60: by the hand-over over all slots. -/
theorem bridgeResetResetsEveryBlock : Obligations.BridgeResetResetsEveryBlock := by
  intro s r accepted
  have run : exec (.bridgeReset r) s = .next ((s.bridgeReset r).answer (.done [])) := by
    rw [exec, execBridgeReset, s.apertureGate_accepted r _ accepted]
  refine ⟨Vector.replicate 8 none, ?_, noSlots_get, fun t took => ?_⟩
  · rw [run, s.bridgeReset_eq r, State.resultDone_answer, State.generate_eq_notified]
    simp only [State.softResetBlocks, State.resetBranch, State.resetEvent, NoticeEngine.softReset, detailBridgeReset_eq,
      map_abandon_eq, StallReason.onSignal_eq]
    rfl
  · obtain rfl : (s.bridgeReset r).answer (.done []) = t := by rw [run] at took; injection took
    rw [s.bridgeReset_eq r]
    refine ⟨if_neg (idleStart_ne_zero s.mgmt.autoPark), rfl, rfl, fun i => if_neg ?_⟩
    simp [State.holdRemaining, State.softResetBlocks]

end Sys2Proof.Machine

/-! The laws after reset, hard reset and its release, and the writes of the aperture's plain words. -/

namespace Sys2Proof.Machine

/-! ### Reset -/

@[simp] theorem State.reset_slots_get (i : Slot) : State.reset.slots.get i = none := noSlots_get i

/-- 01 R22: every word of a table after hard reset is zero. -/
theorem zeroTable_word (w : WindowNo) (k : Fin 8) : ((Vector.replicate 16 WindowRecord.zero).get w).word k = 0 := by
  have : (Vector.replicate 16 WindowRecord.zero).get w = .zero := by simp [Vector.get_eq_getElem]
  rw [this]
  fin_cases k <;> rfl

/-- Settles O3: law by law. -/
theorem resetMeetsEveryLaw : Obligations.ResetMeetsEveryLaw := by
  refine ⟨?keys, ?quota, ?capacity, ?settings, ?items, ?progress, ?fences, ?windows, ?power, ?ring, ?engine⟩
  case keys => intro i j _ live; simp [State.liveKey] at live
  case quota => exact ⟨by decide, fun r => by simp [State.liveCount]⟩
  case capacity => unfold State.WithinCapacity; decide
  case settings => unfold State.SettingsLegal; decide
  case items =>
    refine ⟨by simp [State.reset, BranchEngine.reset], fun i => ?_, fun i => ?_, rfl⟩
    · simp [State.slotQueued]; simp [State.reset, BranchEngine.reset]
    · simp [State.slotOnBranch]; simp [State.reset, BranchEngine.reset, State.activeRef]
  case progress =>
    refine ⟨fun i e he => by simp at he, ?_, ?_⟩
    · simp [State.reset]
    · simp [State.reset, BranchEngine.reset]
  case fences => intro w set; simp [State.reset, WindowUnit.reset, State.fenced] at set
  case windows => exact State.reset.windowsSound_of_none_valid WindowUnit.reset_invalid fun _ => rfl
  case power => unfold State.PowerSound; decide
  case ring => exact fun on => absurd rfl on
  case engine => simp [State.EngineSound, State.reset, NoticeEngine.reset]

/-- Settles O4: both next states are given in full. -/
theorem hardResetAndRelease : Obligations.HardResetAndRelease := by
  intro s cause strap
  refine ⟨_, _, rfl, rfl, rfl, rfl, rfl, fun q => ?_, fun w k => ⟨zeroTable_word w k, zeroTable_word w k⟩, rfl, rfl,
    noSlots_get, ?_⟩
  · rw [exec, execTrunkRequest, State.present_held _ _ rfl]
  · cases cause <;> simp [BranchEngine.reset, ReclaimLog.reset, NoticeEngine.reset, Management.reset, hardResetCause,
      CommandResult.reset, Config.resetQuota, Config.resetHoldLimit, Config.resetWriteMask, Config.resetWarmUp]

/-! ### The words of the aperture -/

/-- 09 R148: the aperture lies below the end of the Trunk's addresses. -/
theorem State.aperture_address (s : State) {offset : Nat} (inside : offset < 0x1000) :
    (BitVec.ofNat 32 (s.apertureBase + offset)).toNat = s.apertureBase + offset := by
  have := s.mgmt.strap.isLt
  simp only [State.apertureBase, Config.apertureStride, Config.apertureOffset, BitVec.toNat_ofNat]
  omega

/-- 08 R138 step 2, R140: a single-word, full-mask access of an aperture word. -/
theorem State.present_word (s : State) (r : Requester) {offset : Nat} (access : Access) (out : s.port.held = false)
    (inside : offset < 0x1000) (aligned : offset % 4 = 0) (full : access.singleFull = true) :
    s.present { requester := r, address := BitVec.ofNat 32 (s.apertureBase + offset), access := access } =
      s.apertureAccess r (ApertureWord.ofOffset offset) access := by
  have address := s.aperture_address inside
  have one : access.count = 1 := by
    unfold Access.singleFull at full
    split at full
    · rfl
    · rfl
    · simp at full
  have base : s.apertureBase % 4096 = 0 := by
    simp only [State.apertureBase, Config.apertureStride, Config.apertureOffset]; omega
  rw [State.present_aperture _ _ out, State.apertureRequest, if_pos full, State.apertureOffset, address, Nat.add_sub_cancel_left]
  · simp [TrunkRequest.malformed, one, address]
    omega
  · simp [State.inAperture, address, Config.apertureSize, inside]

/-- 08 R140: an accepted aperture write has the effect of the word's write. -/
theorem exec_apertureWrite (s : State) (r : Requester) (offset : BitVec 12) (v : Word) (accepted : s.accepts r)
    (aligned : offset.toNat % 4 = 0) :
    exec (.apertureWrite r offset v) s =
      .next ((s.writeWord r (ApertureWord.ofOffset offset.toNat) v).answer (.done [])) := by
  rw [exec, execApertureWrite, State.apertureWriteRequest, s.present_word r _ accepted.1 offset.isLt aligned rfl,
    State.apertureAccess, s.apertureGate_accepted r _ accepted]

/-- 11 11.2: the shadow records. -/
theorem ApertureWord.ofOffset_shadow (w : WindowNo) (k : Fin 8) {offset : Nat} (place : offset = 0x400 + 32 * w.val + 4 * k.val) :
    ApertureWord.ofOffset offset = .shadow w k := by
  subst place
  unfold ApertureWord.ofOffset
  rw [if_pos (by omega), ApertureWord.shadow.injEq]
  constructor <;> apply Fin.ext <;> simp only [lowFin, Fin.ofNat] <;> omega

theorem table_set_get (table : Vector WindowRecord 16) (w v : WindowNo) (r : WindowRecord) :
    (table.set w r).get v = if w = v then r else table.get v := by
  simp only [Vector.get_eq_getElem, Vector.getElem_set, Fin.ext_iff]

/-- 01 R8: the defined words of a record with one of them written. -/
theorem WindowRecord.word_withWord (r : WindowRecord) (k j : Fin 7) (v : Word) :
    (r.withWord k.castSucc v).word j.castSucc = if j = k then v else r.word j.castSucc := by
  fin_cases k <;> fin_cases j <;> rfl

/-- 01 R8, 11 R167: the words whose writes change nothing: the read-only words, the eighth word of a shadow record, and the offsets
of no table. -/
def ApertureWord.inert : ApertureWord → Bool
  | .setting _ | .command | .check | .stage | .config _ | .consumer => false
  | .shadow _ k => k == 7
  | _ => true

theorem State.writeWord_inert (s : State) (r : Requester) (word : ApertureWord) (v : Word)
    (inert : ApertureWord.inert word = true) :
    s.writeWord r word v = s := by
  cases word with
  | shadow w k =>
    obtain rfl : k = 7 := by simpa [ApertureWord.inert] using inert
    have same : s.window.shadow.set w (s.window.shadow.get w) = s.window.shadow := by
      simp [Vector.get_eq_getElem]
    show { s with window.shadow := s.window.shadow.set w (s.window.shadow.get w) } = s
    rw [same]
  | setting | command | check | stage | config | consumer => simp [ApertureWord.inert] at inert
  | _ => rfl

/-- 11 11.2: where the inert words lie. -/
theorem ApertureWord.ofOffset_inert (offset : Nat)
    (h : offset < 0x100 ∨ (0x110 < offset ∧ offset < 0x200) ∨ (0x208 < offset ∧ offset < 0x300) ∨ offset = 0x318
      ∨ (0x31C < offset ∧ offset < 0x400) ∨ (0x400 ≤ offset ∧ offset < 0x600 ∧ offset % 32 = 28) ∨ 0x600 ≤ offset) :
    ApertureWord.inert (ApertureWord.ofOffset offset) = true := by
  unfold ApertureWord.ofOffset
  split
  · have : offset / 4 % 8 = 7 := by omega
    simp [ApertureWord.inert, lowFin, Fin.ext_iff, this]
  · split
    · rfl
    · split
      · rfl
      · split
        · rfl
        · split <;> first | rfl | omega

/-- Settles O25: an aperture write is the write of its word. -/
theorem plainApertureWrites : Obligations.PlainApertureWrites := by
  intro s r v accepted
  refine ⟨?_, ?_, fun w k => ?_, fun offset aligned inert => ?_⟩
  · rw [exec_apertureWrite s r 0x204 v accepted (by decide)]; rfl
  · rw [exec_apertureWrite s r 0x208 v accepted (by decide)]; rfl
  · have offset : (BitVec.ofNat 12 (0x400 + 32 * w.val + 4 * k.val)).toNat = 0x400 + 32 * w.val + 4 * k.castSucc.val := by
      rw [BitVec.toNat_ofNat, Fin.val_castSucc]; omega
    refine ⟨s.window.shadow.set w ((s.window.shadow.get w).withWord k.castSucc v), ?_, ?_, fun x j other => ?_⟩
    · rw [exec_apertureWrite s r _ v accepted (by rw [offset, Fin.val_castSucc]; omega), offset,
        ApertureWord.ofOffset_shadow w k.castSucc rfl]; rfl
    · rw [table_set_get, if_pos rfl, WindowRecord.word_withWord, if_pos rfl]
    · rw [table_set_get]
      split
      · next same =>
        rw [WindowRecord.word_withWord, if_neg (other.resolve_left fun h => h same.symm), same]
      · rfl
  · rw [exec_apertureWrite s r offset v accepted aligned, s.writeWord_inert r _ v (ApertureWord.ofOffset_inert _ inert)]; rfl

end Sys2Proof.Machine

/-! Packed words as fields put in one after another, and the READ of an aperture word. -/

namespace Sys2Proof.Machine

/-! ### Packed words, field by field -/

/-- Fields in ascending order from a lowest bit on, none overlapping the next. -/
def fieldsFit : Nat → List BitField → Bool
  | _, [] => true
  | low, f :: fields => decide (low ≤ f.1) && decide (f.2.1 ≤ 32) && fieldsFit (f.1 + f.2.1) fields

/-- A field is its value at its place, cut to the word. -/
theorem bits_eq_ofNat (pos width value : Nat) (narrow : width ≤ 32) :
    bits pos width value = BitVec.ofNat 32 (2 ^ pos * (value % 2 ^ width)) := by
  have wide : value % 2 ^ width < 2 ^ 32 :=
    (Nat.mod_lt _ (Nat.two_pow_pos width)).trans_le (Nat.pow_le_pow_right (by omega) narrow)
  apply BitVec.eq_of_toNat_eq
  rw [bits, BitVec.toNat_shiftLeft, BitVec.toNat_setWidth, BitVec.toNat_ofNat, BitVec.toNat_ofNat, Nat.mod_eq_of_lt wide,
    Nat.shiftLeft_eq, Nat.mul_comm]

@[simp] theorem bits_zero (pos width : Nat) : bits pos width 0 = 0 := by simp [bits]

/-- Fields put in one after another above the bits in use add their values. -/
theorem foldl_or_bits (fields : List BitField) (low n : Nat) (used : n < 2 ^ low) (fit : fieldsFit low fields = true) :
    fields.foldl (fun x f => x ||| bits f.1 f.2.1 f.2.2) (BitVec.ofNat 32 n) =
      BitVec.ofNat 32 (n + (fields.map fun f => 2 ^ f.1 * (f.2.2 % 2 ^ f.2.1)).sum) := by
  induction fields generalizing low n with
  | nil => simp
  | cons f fields ih =>
    obtain ⟨pos, width, value⟩ := f
    simp only [fieldsFit, Bool.and_eq_true, decide_eq_true_eq] at fit
    obtain ⟨⟨above, narrow⟩, rest⟩ := fit
    have below : n < 2 ^ pos := used.trans_le (Nat.pow_le_pow_right (by omega) above)
    have place : BitVec.ofNat 32 n ||| bits pos width value = BitVec.ofNat 32 (n + 2 ^ pos * (value % 2 ^ width)) := by
      apply BitVec.eq_of_toNat_eq
      rw [bits_eq_ofNat pos width value narrow, BitVec.toNat_or, BitVec.toNat_ofNat, BitVec.toNat_ofNat, BitVec.toNat_ofNat,
        ← Nat.or_mod_two_pow, Nat.or_comm, ← Nat.two_pow_add_eq_or_of_lt below, Nat.add_comm]
    have fits : n + 2 ^ pos * (value % 2 ^ width) < 2 ^ (pos + width) := by
      have : value % 2 ^ width + 1 ≤ 2 ^ width := Nat.mod_lt _ (Nat.two_pow_pos width)
      calc n + 2 ^ pos * (value % 2 ^ width) < 2 ^ pos * (value % 2 ^ width + 1) := by rw [Nat.mul_add]; omega
        _ ≤ 2 ^ pos * 2 ^ width := Nat.mul_le_mul_left _ this
        _ = 2 ^ (pos + width) := (Nat.pow_add ..).symm
    rw [List.foldl_cons, place, ih _ _ fits rest, List.map_cons, List.sum_cons, Nat.add_assoc]

/-- A packed word puts its fields in one after another. -/
theorem packed_eq_foldl (fields : List BitField) (fit : fieldsFit 0 fields = true) :
    packed fields = fields.foldl (fun x f => x ||| bits f.1 f.2.1 f.2.2) 0#32 := by
  rw [packed]
  simpa using (foldl_or_bits fields 0 0 (by simp) fit).symm

theorem packed_cons (f : BitField) (fields : List BitField) (fit : fieldsFit 0 (f :: fields) = true) :
    packed (f :: fields) = fields.foldl (fun x g => x ||| bits g.1 g.2.1 g.2.2) (bits f.1 f.2.1 f.2.2) := by
  rw [packed_eq_foldl _ fit, List.foldl_cons, BitVec.zero_or]

@[simp] theorem packed_nil : packed [] = 0 := rfl

/-- A register of the word's low bits. -/
theorem packed_register {width : Nat} (x : BitVec width) : packed [(0, width, x.toNat)] = x.setWidth 32 := by
  apply BitVec.eq_of_toNat_eq
  have := x.isLt
  simp [packed, Nat.mod_eq_of_lt this]

/-- A word that is one field. -/
theorem packed_word (x : Word) : packed [(0, 32, x.toNat)] = x := by
  rw [packed_register x, BitVec.setWidth_eq]

theorem packed_number (n : Nat) : packed [(0, 32, n)] = BitVec.ofNat 32 n := by
  apply BitVec.eq_of_toNat_eq
  simp [packed]

/-- 11 11.4: the byte mask image, field by field. -/
theorem packed_masks (masks : List Lanes) : packed (masks.zipIdx.map fun m => (4 * m.2, 4, m.1.toNat)) = maskImage masks := by
  have fit (masks : List Lanes) (n : Nat) :
      fieldsFit (4 * n) ((masks.zipIdx n).map fun m => (4 * m.2, 4, m.1.toNat)) = true := by
    induction masks generalizing n with
    | nil => rfl
    | cons m masks ih => simpa [fieldsFit, Nat.mul_add] using ih (n + 1)
  rw [packed_eq_foldl _ (fit masks 0), maskImage, List.foldl_map, List.foldl_map]
  rfl

/-! ### Aperture reads -/

/-- 08 R140: a READ of the aperture word at an offset is answered with the fields, and changes nothing else. -/
def State.Shows (s : State) (r : Requester) (offset : Nat) (fields : List BitField) : Prop :=
  exec
      (.trunkRequest
        { requester := r, address := BitVec.ofNat 32 (s.mgmt.strap.toNat * 0x10000000 + 0x0FFF0000 + offset),
          access := .read [0xF] }) s =
    .next { s with port.answer := some (.done [packed fields]) }

/-- 08 R140: a READ shows the word of its offset. -/
theorem State.shows (s : State) (r : Requester) (out : s.port.held = false) {offset : Nat} {fields : List BitField}
    (word : ApertureWord) (place : ApertureWord.ofOffset offset = word) (reads : packed fields = s.readWord word)
    (inside : offset < 0x1000 := by omega) (aligned : offset % 4 = 0 := by omega) : s.Shows r offset fields := by
  have answer := s.present_word r (.read [0xF]) out inside aligned rfl
  rw [place, State.apertureAccess, ← reads] at answer
  simp only [State.apertureBase, Config.apertureStride, Config.apertureOffset] at answer
  rw [State.Shows, exec, execTrunkRequest, answer]
  rfl

/-- 11 11.2: the active records. -/
theorem ApertureWord.ofOffset_active (w : WindowNo) (k : Fin 8) {offset : Nat} (place : offset = 0x600 + 32 * w.val + 4 * k.val) :
    ApertureWord.ofOffset offset = .active w k := by
  subst place
  unfold ApertureWord.ofOffset
  rw [if_neg (by omega), if_pos (by omega), ApertureWord.active.injEq]
  constructor <;> apply Fin.ext <;> simp only [lowFin, Fin.ofNat] <;> omega

/-- 11 11.4: the pending snapshot. -/
theorem ApertureWord.ofOffset_pending (i : Slot) (k : Fin 16) {offset : Nat} (place : offset = 0x800 + 64 * i.val + 4 * k.val) :
    ApertureWord.ofOffset offset = .pendingSlot i k := by
  subst place
  unfold ApertureWord.ofOffset
  rw [if_neg (by omega), if_neg (by omega), if_pos (by omega), ApertureWord.pendingSlot.injEq]
  constructor <;> apply Fin.ext <;> simp only [lowFin, Fin.ofNat] <;> omega

/-- 11 11.5: the reclaim head. -/
theorem ApertureWord.ofOffset_reclaim (k : Nat) (inside : k < 14) {offset : Nat} (place : offset = 0xA00 + 4 * k) :
    ApertureWord.ofOffset offset = .reclaimHead k := by
  subst place
  unfold ApertureWord.ofOffset
  rw [if_neg (by omega), if_neg (by omega), if_neg (by omega), if_pos (by omega)]
  congr 1; omega

/-- 11 R167: the offsets in no table. -/
theorem ApertureWord.ofOffset_undefined (offset : Nat)
    (h : (0x00C < offset ∧ offset < 0x100) ∨ (0x110 < offset ∧ offset < 0x200) ∨ (0x210 < offset ∧ offset < 0x300)
      ∨ (0x324 < offset ∧ offset < 0x400) ∨ (0xA34 < offset ∧ offset < 0xB00) ∨ (0xB10 < offset ∧ offset < 0x1000))
    (aligned : offset % 4 = 0) : ApertureWord.ofOffset offset = .undefined := by
  unfold ApertureWord.ofOffset
  rw [if_neg (by omega), if_neg (by omega), if_neg (by omega), if_neg (by omega)]
  split <;> first | rfl | omega

end Sys2Proof.Machine

/-! Every word an aperture READ shows, field by field. -/

namespace Sys2Proof.Machine

/-! ### The view words, field by field -/

/-- 09 R149. -/
theorem State.packed_status (s : State) :
    packed
      [ (0, 2, EngineState.code s.notice.state), (4, 2, PowerState.code s.branch.power),
        (8, 4, ((List.finRange 8).filter fun i => (s.slots.get i).isSome).length), (12, 5, s.posts.length),
        (20, 4, s.reclaim.records.length), (24, 1, if s.window.fences = 0 then 0 else 1), (28, 4, s.mgmt.strap.toNat) ] =
      s.statusWord := by
  have any : (if s.window.fences = 0 then 0 else 1) = (s.window.fences != 0).toNat := by
    by_cases h : s.window.fences = 0
    · simp [h]
    · rw [if_neg h, bne_iff_ne.mpr h]; rfl
  rw [packed_cons _ _ rfl, ← List.countP_eq_length_filter, any]
  rfl

/-- 07 R132. -/
theorem NoticeEngine.packed_status (n : NoticeEngine) :
    packed
      [ (0, 2, EngineState.code n.state), (4, 3, StallReason.code n.stallReason), (8, 3, n.backlog.length),
        (12, 1, n.signalArmed.toNat), (13, 1, n.halfArmed.toNat),
        (16, 2, match n.flight with | none => 0 | some f => FlightKind.code f.kind), (24, 7, n.waitCount) ] = n.statusWord := by
  rw [packed_cons _ _ rfl, NoticeEngine.statusWord]
  cases n.flight <;> rfl

/-- 02 R24: an entry's admission order counts the references ahead of its own. -/
theorem State.admissionOrder_eq (s : State) (i : Slot) :
    s.admissionOrder i = (s.branch.issueOrder.takeWhile (· != .entry i)).length + 1 := by
  rw [State.admissionOrder]
  induction s.branch.issueOrder with
  | nil => rfl
  | cons r refs ih =>
    by_cases here : r = .entry i
    · simp [List.findIdx_cons, here]
    · have other : (r == Ref.entry i) = false := by simpa using here
      simpa [List.findIdx_cons, List.takeWhile_cons, other, bne] using ih

/-- 04 R85. -/
theorem State.packed_branch (s : State) :
    packed
      [ (0, 2, PowerState.code s.branch.power), (2, 1, s.branch.parkAfterWake.toNat), (8, 5, s.branch.issueOrder.length),
        (16, 4, (s.branch.issueOrder.filter (· != .posted)).length),
        (24, 5, (s.branch.issueOrder.filter (· == .posted)).length) ] = s.branchWord := by
  rw [packed_cons _ _ rfl, ← List.countP_eq_length_filter, ← List.countP_eq_length_filter]
  rfl

/-- 04 R85. -/
theorem State.packed_activeItem (s : State) (p : Progress) (active : s.branch.active = some p) :
    packed
      [ (0, 2, if p.item = .posted then 2 else 1), (4, 3, match p.item with | .entry i => i.val | .posted => 0),
        (8, 5, p.cycles.length), (16, 4, p.cyclesDone), (20, 3, p.reissuesUsed) ] = s.activeItemWord := by
  rw [packed_cons _ _ rfl]
  cases item : p.item <;> simp [State.activeItemWord, active, item]

/-- 03 R62: with no posted write draining there is no draining head. -/
theorem State.drainingHead_eq_none (s : State) (idle : ∀ p ∈ s.branch.active, p.item ≠ .posted) : s.drainingHead = none := by
  unfold State.drainingHead
  split
  · next active _ => rw [if_neg (idle _ active)]
  · rfl

theorem State.drainingHead_eq_some (s : State) {p : Progress} {x : PostedWrite} {rest : List PostedWrite}
    (active : s.branch.active = some p) (item : p.item = .posted) (posts : s.posts = x :: rest) :
    s.drainingHead = some (x, p) := by
  simp [State.drainingHead, active, item, posts]

/-- 11 11.4: a word of an occupied slot. -/
theorem State.readWord_entry (s : State) (i : Slot) (e : Entry) (slot : s.slots.get i = some e) (k : Fin 16) :
    s.readWord (.pendingSlot i k) = s.entryWord i e k.val := by
  simp only [State.readWord, State.pendingWord, slot]

/-- 11 11.2: the defined words of an active record. -/
theorem State.activeWord_castSucc (s : State) (w : WindowNo) (k : Fin 7) :
    s.activeWord w k.castSucc = (s.window.active.get w).word k.castSucc := by
  exact if_neg (Fin.castSucc_lt_last k).ne

/-- 02 R47: the reissues used shown for an ACTIVE or CANCELLED entry. -/
theorem State.entryReissues_eq (s : State) (i : Slot) (c : Prop) [Decidable c] :
    (match s.branch.active with
      | some p => if p.item = .entry i ∧ c then p.reissuesUsed else 0
      | none => 0) = if c then s.entryReissues i else 0 := by
  unfold State.entryReissues
  cases s.branch.active with
  | none => simp
  | some p => by_cases item : p.item = .entry i <;> simp [item]

/-- The result a slot shows, one without fields while its entry is not READY. -/
def Entry.shownResult (e : Entry) : Result :=
  match e.phase with
  | .ready r _ => r
  | _ => { status := .ok, data := [] }

/-- The entry is READY. -/
def Entry.isReady (e : Entry) : Bool :=
  match e.phase with
  | .ready .. => true
  | _ => false

/-- 11 11.4 word 0. -/
theorem State.packed_pending0 (s : State) (i : Slot) (e : Entry) {reissues : Nat}
    (used : reissues = if e.phase = .active ∨ e.phase = .cancelled then s.entryReissues i else 0) :
    packed
      [ (0, 3, Phase.code e.phase), (3, 1, Kind.code e.request.access.kind), (4, 4, e.request.requester.val),
        (8, 4, e.request.access.count), (12, 2, if e.isReady = true then Status.code e.shownResult.status else 0),
        (16, 4, e.shownResult.status.faultCode), (20, 3, reissues),
        (24, 5, if e.phase = .queued then (s.branch.issueOrder.takeWhile (· != .entry i)).length + 1 else 0) ] =
      s.pendingWord0 i e := by
  rw [packed_cons _ _ rfl, used, ← s.admissionOrder_eq]
  cases phase : e.phase <;>
    simp [State.pendingWord0, Entry.isReady, Entry.shownResult, phase, Status.faultCode]

/-- 02 R47: the data words of a slot. -/
theorem Entry.shownData_eq (e : Entry) :
    e.shownData = match e.request.access with | .write words => words.map (·.data) | .read _ => e.shownResult.data := by
  obtain ⟨⟨requester, address, access⟩, route, phase⟩ := e
  cases access <;> cases phase <;> rfl

/-- 06 R116: an empty log shows its counters alone. -/
theorem State.reclaimWord_empty (s : State) (empty : s.reclaim.records = []) (k : Nat) : s.reclaimWord (k + 1) = 0 := by
  simp only [State.reclaimWord, empty, List.head?_nil]

/-- 11 11.4: a READ shows a word of an occupied slot. -/
theorem State.shows_entry (s : State) (r : Requester) (out : s.port.held = false) {i : Slot} {e : Entry}
    (slot : s.slots.get i = some e) (k : Fin 16) {offset : Nat} {fields : List BitField}
    (place : offset = 0x800 + 64 * i.val + 4 * k.val) (reads : packed fields = s.entryWord i e k.val) : s.Shows r offset fields :=
  s.shows r out (.pendingSlot i k) (ApertureWord.ofOffset_pending i k place) (reads.trans (s.readWord_entry i e slot k).symm)

/-- 11 11.5: a READ shows a word of the reclaim head. -/
theorem State.shows_reclaim (s : State) (r : Requester) (out : s.port.held = false) (k : Fin 14) {offset : Nat}
    {fields : List BitField} (place : offset = 0xA00 + 4 * k.val) (reads : packed fields = s.reclaimWord k.val) :
    s.Shows r offset fields :=
  s.shows r out (.reclaimHead k.val) (ApertureWord.ofOffset_reclaim k.val k.isLt place) reads

/-- Settles O26: an aperture READ shows the word of its offset, and each word is its fields. -/
theorem apertureReadsChangeNothing : Obligations.ApertureReadsChangeNothing := by
  refine ⟨⟨rfl, rfl, rfl, fun _ _ => rfl, fun _ => rfl, rfl, rfl, rfl, fun _ _ => rfl, rfl, rfl, rfl, rfl⟩, fun s r out => ?_⟩
  have word {offset : Nat} {fields : List BitField} (w : ApertureWord) (place : ApertureWord.ofOffset offset = w)
      (reads : packed fields = s.readWord w) (inside : offset < 0x1000 := by omega) (aligned : offset % 4 = 0 := by omega) :
      s.Shows r offset fields := s.shows r out w place reads inside aligned
  refine ⟨?management, ?notice, ?tables, ?pending, ?reclaim, ?branch, ?nowhere⟩
  case management =>
    exact ⟨word .identity rfl rfl, word .resetCause rfl (packed_cons _ _ rfl), word .status rfl s.packed_status,
      word .timeBase rfl (packed_word _), word (.setting .requesterQuota) rfl (packed_register _),
      word (.setting .holdLimit) rfl (packed_register _), word (.setting .writeMask) rfl (packed_register _),
      word (.setting .warmUp) rfl (packed_register _), word (.setting .autoPark) rfl (packed_register _),
      word .command rfl rfl, word .check rfl (packed_word _), word .stage rfl (packed_word _),
      word .resultFirst rfl (packed_cons _ _ rfl), word .resultSecond rfl (packed_register _)⟩
  case notice =>
    exact ⟨word (.config .ringBase) rfl (packed_word _), word (.config .ringOrder) rfl (packed_register _),
      word (.config .signalAddress) rfl (packed_word _), word (.config .signalValue) rfl (packed_word _),
      word (.config .signalEnable) rfl (packed_cons _ _ rfl), word (.config .ownRequester) rfl (packed_cons _ _ rfl),
      word .producer rfl (packed_register _), word .consumer rfl (packed_register _),
      word .engineStatus rfl s.notice.packed_status, word .nextSequence rfl (packed_register _)⟩
  case tables =>
    refine fun w => ⟨fun k => ⟨?_, ?_⟩, ?_, ?_⟩
    · exact word (.shadow w k.castSucc) (ApertureWord.ofOffset_shadow w _ rfl) (packed_word _)
    · exact word (.active w k.castSucc) (ApertureWord.ofOffset_active w _ rfl)
        ((packed_word _).trans (s.activeWord_castSucc w k).symm)
    · exact word (.shadow w 7) (ApertureWord.ofOffset_shadow w _ (by simp; omega)) rfl
    · exact word (.active w 7) (ApertureWord.ofOffset_active w _ (by simp; omega)) (packed_cons _ _ rfl)
  case pending =>
    refine fun i => ⟨fun free k => ?_, fun e slot => ?_⟩
    · refine word (.pendingSlot i k) (ApertureWord.ofOffset_pending i k rfl) ?_
      simp only [State.readWord, State.pendingWord, free, packed_nil]
    · have entry := s.shows_entry r out slot
      refine ⟨entry 0 rfl (s.packed_pending0 i e (s.entryReissues_eq i _)), entry 1 rfl (packed_word _),
        entry 2 rfl (packed_masks _), entry 3 rfl (packed_number _), entry 4 rfl (packed_cons _ _ rfl),
        entry 5 rfl (packed_register _), entry 6 rfl (packed_cons _ _ rfl), entry 7 rfl (packed_word _),
        fun j => entry ⟨8 + j.val, by omega⟩ (by simp; omega) ?_⟩
      have data : s.entryWord i e (8 + j.val) = e.shownData.getD j.val 0 := by rw [Nat.add_comm]; rfl
      rw [data, e.shownData_eq]
      exact packed_word _
  case reclaim =>
    have view := s.shows_reclaim r out
    refine ⟨view 0 rfl (packed_cons _ _ rfl), fun empty k => view k.succ (by simp; omega) (s.reclaimWord_empty empty k.val).symm,
      fun x rest log => ?_⟩
    have head : s.reclaim.records.head? = some x := by rw [log]; rfl
    refine ⟨view 1 rfl ?_, view 2 rfl ?_, view 3 rfl ?_, view 4 rfl ?_, view 5 rfl ?_,
      fun j => view ⟨j.val + 6, by omega⟩ (by simp; omega) ?_⟩
    all_goals simp only [State.reclaimWord, head]
    · exact packed_cons _ _ rfl
    · exact packed_word _
    · exact packed_cons _ _ rfl
    · exact packed_masks _
    · exact packed_word _
    · exact packed_word _
  case branch =>
    refine ⟨word .branchState rfl s.packed_branch, fun idle => ⟨word .activeItem rfl ?_, word .outstandingCycle rfl ?_⟩,
      fun p active => ⟨word .activeItem rfl (s.packed_activeItem p active), fun c cycle => word .outstandingCycle rfl ?_⟩,
      fun waiting => ⟨word .postQueue rfl ?_, word .postHead rfl ?_⟩,
      fun p x rest active item posts => ⟨word .postQueue rfl ?_, word .postHead rfl ?_⟩⟩
    · simp only [State.readWord, State.activeItemWord, idle, packed_nil]
    · simp only [State.readWord, State.outstandingWord, State.outstanding, idle, Option.bind_none, packed_nil]
    · simp only [State.readWord, State.outstandingWord, State.outstanding, active, Option.bind_some, Progress.outstanding, cycle]
      exact packed_cons _ _ rfl
    · simp only [State.readWord, State.postWord, s.drainingHead_eq_none waiting]
      exact packed_cons _ _ rfl
    · simp only [State.readWord, State.postAddressWord, s.drainingHead_eq_none waiting, packed_nil]
      rfl
    · simp only [State.readWord, State.postWord, s.drainingHead_eq_some active item posts]
      exact packed_cons _ _ rfl
    · simp only [State.readWord, State.postAddressWord, s.drainingHead_eq_some active item posts]
      exact packed_word _
  case nowhere =>
    exact fun offset aligned place => word .undefined (ApertureWord.ofOffset_undefined offset place aligned) rfl

end Sys2Proof.Machine

/-! The rules of notices, idleness and the owner's part of an end, and the references that remain after a purge. -/

namespace Sys2Proof.Machine

/-! ### Notices and idleness -/

/-- 07 R118, R120: what a notice adds rests on the engine and the time base. -/
theorem State.notified_notice {s t : State} (notice : t.notice = s.notice) (mgmt : t.mgmt = s.mgmt) (kind : NoticeKind)
    (window : Option WindowNo) (requester : Option Requester) (epoch : BitVec 8) (detail : Word) (aux : BitVec 16) :
    (t.notified kind window requester epoch detail aux).notice = (s.notified kind window requester epoch detail aux).notice := by
  simp only [State.notified, notice, mgmt]

/-- 10 R162, R164: an engine left idle changes its power and its idle timer alone. -/
@[simp] theorem State.afterEnd_frame (s : State) :
    s.afterEnd.window = s.window ∧ s.afterEnd.slots = s.slots ∧ s.afterEnd.posts = s.posts ∧ s.afterEnd.reclaim = s.reclaim
      ∧ s.afterEnd.notice = s.notice ∧ s.afterEnd.mgmt = s.mgmt ∧ s.afterEnd.port = s.port
      ∧ s.afterEnd.branch.issueOrder = s.branch.issueOrder := by
  unfold State.afterEnd
  split
  · split <;> simp
  · simp

/-- 10 R164: what idleness does to the engine rests on the engine and the auto-park interval. -/
theorem State.afterEnd_branch {s t : State} (branch : t.branch = s.branch) (mgmt : t.mgmt = s.mgmt) :
    t.afterEnd.branch = s.afterEnd.branch := by
  unfold State.afterEnd
  rw [branch, mgmt]
  split
  · split <;> simp only [branch]
  · exact branch

/-! ### The owner's part of an end -/

/-- 04 R79 step 2: the owner changes its slots and its queue alone. -/
@[simp] theorem State.ownerTakes_frame (s : State) (r : Ref) (result : Result) :
    (s.ownerTakes r result).window = s.window ∧ (s.ownerTakes r result).reclaim = s.reclaim
      ∧ (s.ownerTakes r result).notice = s.notice ∧ (s.ownerTakes r result).mgmt = s.mgmt
      ∧ (s.ownerTakes r result).port = s.port := by
  cases r with
  | posted => simp [State.ownerTakes]
  | entry i =>
    simp only [State.ownerTakes]
    split
    · split <;> simp
    · simp

/-- 03 R59: the draining write leaves; else the queue stays. -/
theorem State.ownerTakes_posts (s : State) (r : Ref) (result : Result) :
    (s.ownerTakes r result).posts = if r = .posted then s.posts.tail else s.posts := by
  cases r with
  | posted => rfl
  | entry i =>
    rw [if_neg (by simp)]
    simp only [State.ownerTakes]
    split
    · split <;> rfl
    · rfl

theorem State.ownerTakes_get_other (s : State) (r : Ref) (result : Result) (i : Slot) (other : r ≠ .entry i) :
    (s.ownerTakes r result).slots.get i = s.slots.get i := by
  cases r with
  | posted => rfl
  | entry j =>
    have differ : j ≠ i := fun same => other (by rw [same])
    simp only [State.ownerTakes]
    split
    · split <;> simp [differ]
    · rfl

/-- 02 R35, R42: the entry becomes READY, or its slot FREE when it was CANCELLED. -/
theorem State.ownerTakes_get_same (s : State) (i : Slot) (e : Entry) (result : Result) (slot : s.slots.get i = some e) :
    (s.ownerTakes (.entry i) result).slots.get i = if e.phase = .cancelled then none else some (s.readyEntry e result) := by
  simp only [State.ownerTakes, slot]
  split <;> simp

/-! ### The purge of a fence -/

/-- 05 R96: the purge takes the entry of a slot: it is QUEUED with a snapshot of window w and epoch ep. -/
def State.purges (s : State) (w : WindowNo) (ep : BitVec 8) (i : Slot) : Bool :=
  (s.slots.get i).any fun e => e.queued && e.route.names w ep

@[simp] theorem State.purgeRefs_nil (s : State) (w : WindowNo) (ep : BitVec 8) (waiting : List PostedWrite) :
    purgeRefs s.slots w ep [] waiting = [] := rfl

@[simp] theorem State.purgeRefs_entry (s : State) (w : WindowNo) (ep : BitVec 8) (i : Slot) (refs : List Ref)
    (waiting : List PostedWrite) :
    purgeRefs s.slots w ep (.entry i :: refs) waiting =
      if s.purges w ep i = true then purgeRefs s.slots w ep refs waiting
      else .entry i :: purgeRefs s.slots w ep refs waiting := rfl

@[simp] theorem State.purgeRefs_posted_nil (s : State) (w : WindowNo) (ep : BitVec 8) (refs : List Ref) :
    purgeRefs s.slots w ep (.posted :: refs) [] = .posted :: purgeRefs s.slots w ep refs [] := rfl

@[simp] theorem State.purgeRefs_posted_cons (s : State) (w : WindowNo) (ep : BitVec 8) (refs : List Ref) (p : PostedWrite)
    (waiting : List PostedWrite) :
    purgeRefs s.slots w ep (.posted :: refs) (p :: waiting) =
      if p.route.names w ep = true then purgeRefs s.slots w ep refs waiting
      else .posted :: purgeRefs s.slots w ep refs waiting := rfl

/-- 05 R96: the purge of the references rests on the slots it takes. -/
theorem purgeRefs_congr {s t : State} {w : WindowNo} {ep : BitVec 8} (same : ∀ i, t.purges w ep i = s.purges w ep i)
    (refs : List Ref) (waiting : List PostedWrite) :
    purgeRefs t.slots w ep refs waiting = purgeRefs s.slots w ep refs waiting := by
  induction refs generalizing waiting with
  | nil => rfl
  | cons r refs ih =>
    cases r with
    | entry i => simp only [State.purgeRefs_entry, same, ih]
    | posted => cases waiting <;> simp [ih]

/-- 05 R96: a reference that leaves: an entry's when the purge takes the entry, and the k-th posted one when it drops the k-th waiting
write (03 R52). -/
def State.refLeaves (s : State) (w : WindowNo) (ep : BitVec 8) (waiting : List PostedWrite) (r : Ref) (k : Nat) : Bool :=
  match r with
  | .entry i => s.purges w ep i
  | .posted => (waiting[k]?).any fun p => p.route.names w ep

/-- 05 R96: the references that remain, reference by reference. -/
theorem State.purgeRefs_eq_filter (s : State) (w : WindowNo) (ep : BitVec 8) (refs : List Ref) (waiting : List PostedWrite) :
    purgeRefs s.slots w ep refs waiting =
      (refs.zipIdx.filter fun x => !s.refLeaves w ep waiting x.1 ((refs.take x.2).count .posted)).map (·.1) := by
  induction refs generalizing waiting with
  | nil => rfl
  | cons r refs ih =>
    have shift (waiting' : List PostedWrite)
        (next : ∀ x k, s.refLeaves w ep waiting x (((r :: refs).take (k + 1)).count .posted) =
          s.refLeaves w ep waiting' x ((refs.take k).count .posted)) :
        (((r :: refs).zipIdx.filter fun x => !s.refLeaves w ep waiting x.1 (((r :: refs).take x.2).count .posted)).map (·.1)) =
          if s.refLeaves w ep waiting r 0 then purgeRefs s.slots w ep refs waiting'
          else r :: purgeRefs s.slots w ep refs waiting' := by
      rw [ih, List.zipIdx_cons, Nat.zero_add, List.zipIdx_succ, List.filter_cons, List.filter_map]
      simp only [Function.comp_def, next, List.take_zero, List.count_nil]
      cases s.refLeaves w ep waiting r 0 <;> simp [Function.comp_def]
    cases r with
    | entry i =>
      rw [shift waiting fun x k => by simp]
      rfl
    | posted =>
      cases waiting with
      | nil =>
        rw [shift [] fun x k => by cases x <;> simp [State.refLeaves]]
        simp [State.refLeaves]
      | cons p waiting =>
        rw [shift waiting fun x k => by cases x <;> simp [State.refLeaves]]
        simp [State.refLeaves]

theorem State.purgeRefs_sublist (s : State) (w : WindowNo) (ep : BitVec 8) (refs : List Ref) (waiting : List PostedWrite) :
    (purgeRefs s.slots w ep refs waiting).Sublist refs := by
  have := (List.filter_sublist (p := fun x => !s.refLeaves w ep waiting x.1 ((refs.take x.2).count .posted))
    (l := refs.zipIdx)).map (·.1)
  rwa [← s.purgeRefs_eq_filter, List.zipIdx_map_fst] at this

/-- 05 R96: the entries still referenced. -/
theorem State.entry_mem_purgeRefs (s : State) (w : WindowNo) (ep : BitVec 8) (refs : List Ref) (waiting : List PostedWrite)
    (i : Slot) : .entry i ∈ purgeRefs s.slots w ep refs waiting ↔ .entry i ∈ refs ∧ s.purges w ep i = false := by
  induction refs generalizing waiting with
  | nil => simp
  | cons r refs ih =>
    cases r with
    | entry j =>
      by_cases taken : s.purges w ep j = true
      · rw [State.purgeRefs_entry, if_pos taken, ih]
        by_cases same : i = j
        · simp [same, taken]
        · simp [same]
      · rw [State.purgeRefs_entry, if_neg taken, List.mem_cons, ih]
        by_cases same : i = j
        · simp [same, taken]
        · simp [same]
    | posted =>
      cases waiting with
      | nil => simp [ih]
      | cons p waiting => rw [State.purgeRefs_posted_cons]; split <;> simp [ih]

/-- 05 R96, 03 R52: as many posted references remain as waiting writes. -/
theorem State.count_posted_purgeRefs (s : State) (w : WindowNo) (ep : BitVec 8) (refs : List Ref) (waiting : List PostedWrite)
    (named : refs.count .posted = waiting.length) :
    (purgeRefs s.slots w ep refs waiting).count .posted = (waiting.filter fun p => !p.route.names w ep).length := by
  induction refs generalizing waiting with
  | nil =>
    obtain rfl : waiting = [] := List.eq_nil_of_length_eq_zero (by simpa using named.symm)
    rfl
  | cons r refs ih =>
    cases r with
    | entry i =>
      have rest := ih waiting (by simpa using named)
      rw [State.purgeRefs_entry]
      split <;> simp [rest]
    | posted =>
      cases waiting with
      | nil => simp at named
      | cons p waiting =>
        have rest := ih waiting (by simpa using named)
        rw [State.purgeRefs_posted_cons]
        split
        · next dropped => simp [rest, dropped]
        · next kept => simp [rest, kept]

end Sys2Proof.Machine

/-! The end of an item under FENCE: its notices, its result and the purge. -/

namespace Sys2Proof.Machine

/-- 11 R168: the aux of WINDOW_FENCED. -/
theorem auxWindowFenced_eq (faulted dropped : Nat) (retired : Bool) (entries : faulted < 16) (writes : dropped < 32) :
    auxWindowFenced faulted dropped retired = BitVec.ofNat 16 (faulted + 16 * dropped + if retired then 32768 else 0) := by
  apply BitVec.eq_of_toNat_eq
  have low := bits_toNat 0 4 faulted (by omega)
  have middle := or_bits_toNat (bits 0 4 faulted) 4 5 dropped (by omega) (by omega)
  have high := or_bits_toNat (bits 0 4 faulted ||| bits 4 5 dropped) 15 1 retired.toNat (by omega) (by omega)
  rw [auxWindowFenced, auxOf, BitVec.toNat_setWidth, flagBit, high, middle, low, BitVec.toNat_ofNat]
  cases retired <;> simp <;> omega

/-- 11 R168: the aux of RESULT_DISCARDED. -/
theorem auxResultDiscarded_timeout (kind : Kind) :
    auxResultDiscarded kind (.fault .timeout) = BitVec.ofNat 16 (3 + 16 * 7 + 256 * Kind.code kind) := by
  cases kind <;> decide

/-- 02 R37, R38: a FAULT is discarded with its notice. -/
theorem State.dispose_fault (s : State) (e : Entry) (code : FaultCode) (data : List Word) :
    s.dispose e { status := .fault code, data := data } =
      s.notified .resultDiscarded (some e.route.window) (some e.request.requester) s.window.epoch e.request.address
        (auxResultDiscarded e.request.access.kind (.fault code)) := by
  have keep : e.reclaimable { status := .fault code, data := data } = false := by
    rw [Bool.eq_false_iff, ne_eq, Entry.reclaimable_iff]; simp
  simp only [State.dispose, keep, State.generate_eq_notified, State.disposalEvent]
  rfl

/-- 05 R96: the number of entries a purge takes. -/
theorem State.entriesFaulted_eq (s : State) (w : WindowNo) (ep : BitVec 8) :
    s.entriesFaulted w ep = ((List.finRange 8).filter (s.purges w ep)).length := by
  rw [State.entriesFaulted, List.countP_eq_length_filter]; rfl

/-- 05 R95: the fence handling, its notice apart. -/
def State.fencedState (s : State) (w : WindowNo) (ep : BitVec 8) : State :=
  { s with
    window.fences := if ep = s.window.epoch then setFence s.window.fences w else s.window.fences
    slots := mapSlots s.slots fun e => some (s.purgeEntry w ep e)
    posts := s.posts.filter fun p => !p.route.names w ep
    branch.issueOrder := purgeRefs s.slots w ep s.branch.issueOrder s.posts }

/-- 05 R95, R98: the fence handling. -/
theorem State.fenceHandling_eq (s : State) (it : Item) (index : BranchIndex) :
    s.fenceHandling it index = (s.fencedState it.route.window it.route.epoch).generate (s.fencedEvent it index) := by
  simp only [State.fenceHandling, State.fencedState]
  split
  · next current => rfl
  · next retired => rfl

/-! ### The FENCE end of an item -/

/-- 05 R95: the result of an entry whose item ends under FENCE. -/
def timeoutResult : Result := { status := .fault .timeout, data := [] }

/-- The bridge after the owner took the outcome of the item that ends under FENCE (04 R79 steps 1 and 2). -/
def State.fenceHanded (s : State) (r : Ref) : State := State.ownerTakes { s with branch.active := none } r timeoutResult

@[simp] theorem State.fenceHanded_frame (s : State) (r : Ref) :
    (s.fenceHanded r).window = s.window ∧ (s.fenceHanded r).reclaim = s.reclaim ∧ (s.fenceHanded r).notice = s.notice
      ∧ (s.fenceHanded r).mgmt = s.mgmt ∧ (s.fenceHanded r).port = s.port
      ∧ (s.fenceHanded r).branch = { s.branch with active := none } := by
  simp [State.fenceHanded]

/-- 03 R59. -/
theorem State.fenceHanded_posts (s : State) (r : Ref) :
    (s.fenceHanded r).posts = if r = .posted then s.posts.tail else s.posts := by
  rw [State.fenceHanded, State.ownerTakes_posts]

theorem State.fenceHanded_get_other (s : State) {r : Ref} {i : Slot} (other : r ≠ .entry i) :
    (s.fenceHanded r).slots.get i = s.slots.get i := by
  rw [State.fenceHanded, State.ownerTakes_get_other _ _ _ _ other]

/-- 02 R35, R42. -/
theorem State.fenceHanded_get_same (s : State) {r : Ref} {i : Slot} {e : Entry} (item : r = .entry i)
    (slot : s.slots.get i = some e) :
    (s.fenceHanded r).slots.get i = if e.phase = .cancelled then none else some (s.readyEntry e timeoutResult) := by
  subst item
  exact State.ownerTakes_get_same { s with branch.active := none } i e timeoutResult slot

theorem State.fenceHanded_get_none (s : State) (r : Ref) {i : Slot} (free : s.slots.get i = none) :
    (s.fenceHanded r).slots.get i = none := by
  by_cases item : r = .entry i
  · subst item
    simp [State.fenceHanded, State.ownerTakes, free]
  · rw [s.fenceHanded_get_other item, free]

/-- 02 R42: an item without an entry, or whose entry was not CANCELLED, leaves nothing to dispose of. -/
theorem State.disposeCancelled_keep (s t : State) (r : Ref) (result : Result)
    (owned : ∀ (i : Slot) (e : Entry), r = .entry i → s.slots.get i = some e → e.phase ≠ .cancelled) :
    t.disposeCancelled (s.entryOf r) result = t := by
  cases r with
  | posted => rfl
  | entry i =>
    cases slot : s.slots.get i with
    | none => simp only [State.entryOf, slot, State.disposeCancelled]
    | some e => simp only [State.entryOf, slot, State.disposeCancelled, if_neg (owned i e rfl slot)]

/-- 02 R42: the entry that was CANCELLED is disposed of. -/
theorem State.disposeCancelled_dispose (s t : State) {r : Ref} {i : Slot} {e : Entry} (result : Result) (own : r = .entry i)
    (slot : s.slots.get i = some e) (phase : e.phase = .cancelled) :
    t.disposeCancelled (s.entryOf r) result = t.dispose e result := by
  subst own
  simp only [State.entryOf, slot, State.disposeCancelled, if_pos phase]

/-- 02 R42: a CANCELLED entry's disposal adds its notice alone. -/
theorem State.disposeCancelled_timeout (s : State) (entry : Option Entry) :
    s.disposeCancelled entry timeoutResult = { s with notice := (s.disposeCancelled entry timeoutResult).notice } := by
  cases entry with
  | none => rfl
  | some e =>
    simp only [State.disposeCancelled, timeoutResult, State.dispose_fault]
    split <;> rfl

theorem Entry.queued_eq_false {e : Entry} (phase : e.phase ≠ .queued) : e.queued = false := by
  simpa [Entry.queued] using phase

/-- 05 R96: an entry the purge takes. -/
theorem State.purgeEntry_taken (s : State) {w : WindowNo} {ep : BitVec 8} {e : Entry}
    (taken : (e.queued && e.route.names w ep) = true) :
    s.purgeEntry w ep e = { e with phase := .ready { status := .fault .fenced, data := [] } s.holdNow } := if_pos taken

/-- 05 R96: an entry the purge leaves. -/
theorem State.purgeEntry_left (s : State) {w : WindowNo} {ep : BitVec 8} {e : Entry}
    (left : (e.queued && e.route.names w ep) = false) : s.purgeEntry w ep e = e := if_neg (by simp [left])

section
variable {s : State} {p : Progress} {c : Cycle} {it : Item}

/-- 05 R90: the last allowed attempt under FENCE. -/
theorem State.exec_lastExpiry_fence (active : s.branch.active = some p) (item : s.activeItem p.item = some it)
    (timer : p.timer = some 0) (spent : p.reissuesUsed = it.route.reissueCount.toNat) (final : it.route.finalAction = .fence) :
    exec .handshakeLimitExpiry s = .next (s.endItem .fenced) := by
  have due : s.handshakeRemaining = some 0 := by rw [State.handshakeRemaining, active]; exact timer
  rw [exec, execHandshakeLimitExpiry, if_pos due]
  simp only [State.expireHandshake, active, item, spent, lt_self_iff_false, if_false, final]

/-- 04 R79, 05 R95: the FENCE end of an item in its order. -/
theorem State.endItem_fenced_eq (onBranch : s.OnBranch p.item p c) (item : s.activeItem p.item = some it) :
    s.endItem .fenced =
      State.afterEnd (((s.fenceHanded p.item).fenceHandling it c.index).disposeCancelled (s.entryOf p.item) timeoutResult) := by
  obtain ⟨active, -, outstanding⟩ := onBranch
  have index : (p.outstanding.map (·.index)).getD 0 = c.index := by rw [Progress.outstanding, outstanding]; rfl
  rw [s.endItem_eq .fenced active item, index, State.settle_of_active _ _ (by rw [active]; rfl)]
  · rfl
  · rw [disposeCancelled_branch, engineReport_active, ownerTakes_branch]

/-- 04 R66: the entry of the ACTIVE item is on the Branch. -/
theorem State.ItemsTracked.activeEntry (tracked : s.ItemsTracked) (active : s.branch.active = some p) {i : Slot} {e : Entry}
    (item : p.item = .entry i) (slot : s.slots.get i = some e) : e.phase = .active ∨ e.phase = .cancelled := by
  obtain ⟨-, -, onBranch, -⟩ := tracked
  have := (onBranch i).mp (by rw [State.activeRef, active, Option.map_some, item])
  simpa [State.slotOnBranch, slot, Entry.onBranch] using this

/-- 05 R96: the purge takes no entry but those QUEUED before the end. -/
theorem State.purges_fenceHanded (tracked : s.ItemsTracked) (active : s.branch.active = some p) (w : WindowNo) (ep : BitVec 8)
    (i : Slot) : (s.fenceHanded p.item).purges w ep i = s.purges w ep i := by
  unfold State.purges
  by_cases item : p.item = .entry i
  · cases slot : s.slots.get i with
    | none => rw [s.fenceHanded_get_none _ slot]
    | some e =>
      have phase := tracked.activeEntry active item slot
      rw [s.fenceHanded_get_same item slot]
      rcases phase with phase | phase
      · simp [phase, Entry.queued_eq_false, State.readyEntry]
      · simp [phase, Entry.queued_eq_false]
  · rw [s.fenceHanded_get_other item]

/-- 03 R52, 04 R66: each waiting write has its posted reference. -/
theorem State.ItemsTracked.count_posted (tracked : s.ItemsTracked) (active : s.branch.active = some p) :
    s.branch.issueOrder.count .posted = (if p.item = .posted then s.posts.tail else s.posts).length := by
  obtain ⟨-, -, -, count⟩ := tracked
  by_cases posted : p.item = .posted
  · have draining : s.draining = true := by simp [State.draining, active, posted]
    rw [draining, if_pos rfl] at count
    rw [if_pos posted, List.length_tail]; omega
  · have idle : s.draining = false := by simp [State.draining, active, posted]
    rw [idle] at count
    rw [if_neg posted]; simpa using count

/-- The state before the engine may become idle, in the order of 04 R79. -/
theorem State.endItem_fenced_eq_notified (onBranch : s.OnBranch p.item p c) (item : s.activeItem p.item = some it) :
    ∃ n : NoticeEngine, s.endItem .fenced =
      State.afterEnd { (s.fenceHanded p.item).fencedState it.route.window it.route.epoch with notice := n } := by
  rw [State.endItem_fenced_eq onBranch item, State.disposeCancelled_timeout, State.fenceHandling_eq]
  exact ⟨_, rfl⟩

/-- 05 R96: the slots after the FENCE end. -/
theorem State.endItem_fenced_get (onBranch : s.OnBranch p.item p c) (item : s.activeItem p.item = some it) (i : Slot) :
    (s.endItem .fenced).slots.get i =
      ((s.fenceHanded p.item).slots.get i).map (s.purgeEntry it.route.window it.route.epoch) := by
  obtain ⟨n, run⟩ := State.endItem_fenced_eq_notified onBranch item
  have entry (e : Entry) : (s.fenceHanded p.item).purgeEntry it.route.window it.route.epoch e
      = s.purgeEntry it.route.window it.route.epoch e := by
    simp only [State.purgeEntry, State.readyEntry, State.holdStart, State.fenceHanded_frame]
  simp only [run, State.afterEnd_frame, State.fencedState, mapSlots_get, entry]
  cases (s.fenceHanded p.item).slots.get i <;> rfl

/-- 05 R95, R96: the rest of the state after the FENCE end. -/
theorem State.endItem_fenced_rest (tracked : s.ItemsTracked) (onBranch : s.OnBranch p.item p c)
    (item : s.activeItem p.item = some it) :
    let t := s.endItem .fenced
    let waiting := if p.item = .posted then s.posts.tail else s.posts
    t.window = { s.window with
        fences := if it.route.epoch = s.window.epoch then setFence s.window.fences it.route.window else s.window.fences }
      ∧ t.posts = waiting.filter (fun x => !x.route.names it.route.window it.route.epoch)
      ∧ t.branch.issueOrder = purgeRefs s.slots it.route.window it.route.epoch s.branch.issueOrder waiting
      ∧ t.branch = (State.afterEnd { s with branch.active := none, branch.issueOrder := t.branch.issueOrder }).branch
      ∧ t.reclaim = s.reclaim ∧ t.mgmt = s.mgmt ∧ t.port = s.port := by
  obtain ⟨n, run⟩ := State.endItem_fenced_eq_notified onBranch item
  have refs := purgeRefs_congr (State.purges_fenceHanded tracked onBranch.1 it.route.window it.route.epoch)
  dsimp only
  rw [run]
  simp only [State.afterEnd_frame, State.fencedState, State.fenceHanded_frame, State.fenceHanded_posts, refs, true_and,
    and_true]
  exact State.afterEnd_branch (by rfl) rfl

/-- 05 R98: what WINDOW_FENCED adds to the engine. -/
theorem State.fenceHandling_notice (tracked : s.ItemsTracked) (capacity : s.WithinCapacity) (active : s.branch.active = some p)
    (index : BranchIndex) :
    let w := it.route.window
    let waiting := if p.item = .posted then s.posts.tail else s.posts
    ((s.fenceHanded p.item).fenceHandling it index).notice =
      (s.notified .windowFenced (some w) (some it.request.requester) s.window.epoch (index.setWidth 32)
        (BitVec.ofNat 16
          (((List.finRange 8).filter (s.purges w it.route.epoch)).length
            + 16 * (waiting.filter fun x => x.route.names w it.route.epoch).length
            + if it.route.epoch = s.window.epoch then 0 else 32768))).notice := by
  intro w waiting
  have entries : (s.fenceHanded p.item).entriesFaulted w it.route.epoch
      = ((List.finRange 8).filter (s.purges w it.route.epoch)).length := by
    rw [State.entriesFaulted_eq]
    congr 2; funext i
    exact State.purges_fenceHanded tracked active w it.route.epoch i
  have writes : (s.fenceHanded p.item).writesDropped w it.route.epoch
      = (waiting.filter fun x => x.route.names w it.route.epoch).length := by
    rw [State.writesDropped, List.countP_eq_length_filter, s.fenceHanded_posts]
  have few : ((List.finRange 8).filter (s.purges w it.route.epoch)).length ≤ 8 := by
    simpa using List.length_filter_le (s.purges w it.route.epoch) (List.finRange 8)
  have short : waiting.length ≤ 16 := by
    have := capacity.1
    simp only [waiting]; split <;> simp <;> omega
  have fit : (waiting.filter fun x => x.route.names w it.route.epoch).length ≤ 16 :=
    (List.length_filter_le _ _).trans short
  rw [State.fenceHandling_eq, State.generate_eq_notified]
  simp only [State.fencedEvent]
  rw [entries, writes, auxWindowFenced_eq _ _ _ (by omega) (by omega)]
  have retired : (if (it.route.epoch != s.window.epoch) = true then 32768 else 0)
      = if it.route.epoch = s.window.epoch then 0 else 32768 := by
    by_cases current : it.route.epoch = s.window.epoch <;> simp [current]
  obtain ⟨window, -, notice, mgmt, -⟩ := s.fenceHanded_frame p.item
  rw [window, retired]
  exact State.notified_notice notice mgmt ..

end

/-- Settles O40: by the end of the item in the order of 04 R79, with the purge counted before it is made. -/
theorem fenceEndsTheItemAndPurges : Obligations.FenceEndsTheItemAndPurges := by
  intro s p c it tracked capacity onBranch item timer spent final w hit dropped waiting faulted report left
  have active := onBranch.1
  have hits (e : Entry) : hit e = (e.queued && e.route.names w it.route.epoch) := Bool.and_assoc _ _ _
  obtain ⟨window, posts, refs, branch, reclaim, mgmt, port⟩ := State.endItem_fenced_rest tracked onBranch item
  have slots := State.endItem_fenced_get onBranch item
  have purged (i : Slot) : s.purges w it.route.epoch i = (s.slots.get i).any hit := by
    rw [State.purges]; congr 1; funext e; exact (hits e).symm
  have leaves (r : Ref) (k : Nat) : left r k = s.refLeaves w it.route.epoch waiting r k := by
    cases r with
    | entry i => exact (purged i).symm
    | posted => rfl
  have handled : ((s.fenceHanded p.item).fenceHandling it c.index).notice = (report s).notice := by
    rw [State.fenceHandling_notice tracked capacity active c.index]
    simp only [report, faulted, ← purged]
    rfl
  have run := State.endItem_fenced_eq onBranch item
  refine ⟨s.endItem .fenced, State.exec_lastExpiry_fence active item timer spent final, fun i free => ?none, ?order,
    fun v => ?flags, by rw [window], fun i e slot => ⟨fun taken => ?taken, fun stays other => ?other, fun own phase => ?own,
      fun own phase => ?gone⟩, posts, ?sub, fun i => ?mem, ?count, branch, reclaim, mgmt, port, fun owned => ?notice,
    fun i e own slot phase => ?second⟩
  case none => rw [slots, s.fenceHanded_get_none _ free]; rfl
  case order =>
    rw [refs, State.purgeRefs_eq_filter]
    simp only [leaves]
    rfl
  case flags =>
    rw [State.fenced, window]
    by_cases current : it.route.epoch = s.window.epoch
    · simp only [current, if_true, beq_self_eq_true, Bool.and_true]
      exact setFence_getLsbD s.window.fences w v
    · simp [current, State.fenced]
  case taken =>
    have other : p.item ≠ .entry i := fun own => by
      have waits : e.queued = false := Entry.queued_eq_false (by
        rcases tracked.activeEntry active own slot with phase | phase <;> simp [phase])
      simp [hits, waits] at taken
    rw [slots, s.fenceHanded_get_other other, slot, Option.map_some, s.purgeEntry_taken (hits e ▸ taken)]
  case other => rw [slots, s.fenceHanded_get_other other, slot, Option.map_some, s.purgeEntry_left (hits e ▸ stays)]
  case own =>
    rw [slots, s.fenceHanded_get_same own slot, if_neg (by simp [phase]), Option.map_some,
      s.purgeEntry_left (by rw [Entry.queued_eq_false (by simp [State.readyEntry]), Bool.false_and])]
    rfl
  case gone => rw [slots, s.fenceHanded_get_same own slot, if_pos phase]; rfl
  case sub => rw [refs]; exact s.purgeRefs_sublist _ _ _ _
  case mem =>
    obtain ⟨-, referenced, -⟩ := tracked
    rw [refs, s.entry_mem_purgeRefs, referenced, purged, State.slotQueued]
    cases s.slots.get i with
    | none => simp
    | some e => simp [Entry.queued]
  case count => rw [refs, posts]; exact s.count_posted_purgeRefs _ _ _ _ (tracked.count_posted active)
  case notice => simp only [run, State.afterEnd_frame, s.disposeCancelled_keep _ _ _ owned, handled]
  case second =>
    have same : it = e.item := by simpa [own, State.activeItem, slot] using item.symm
    simp only [run, State.afterEnd_frame, s.disposeCancelled_dispose _ _ own slot phase]
    rw [timeoutResult, State.dispose_fault, auxResultDiscarded_timeout]
    have fenced : ((s.fenceHanded p.item).fenceHandling it c.index).mgmt = s.mgmt
        ∧ ((s.fenceHanded p.item).fenceHandling it c.index).window.epoch = s.window.epoch := by
      rw [State.fenceHandling_eq, State.generate_mgmt, State.generate_window]
      simp [State.fencedState]
    obtain ⟨fencedMgmt, fencedEpoch⟩ := fenced
    rw [fencedEpoch, State.notified_notice (s := report s) handled fencedMgmt]
    simp only [w, same, Entry.item]

end Sys2Proof.Machine

/-! FLUSH as one equation over all slots: the slots and references it leaves, the reads it hands to the reclaim log, its notices
and its counts. -/

namespace Sys2Proof.Machine

/-! ### Idleness -/

/-- 04 R84: an event that finds the engine busy and leaves no ACTIVE item. -/
theorem State.settle_of_busy {s t : State} (busy : s.idle = false) (active : t.branch.active = none) :
    State.settle s t = t.afterEnd := by
  have idle : t.idle = t.branch.issueOrder.isEmpty := by simp [State.idle, active]
  unfold State.settle State.afterEnd State.becomeIdle idleStart Config.millisecond
  by_cases empty : t.branch.issueOrder = []
  · cases power : t.branch.power <;> simp [idle, busy, empty, power]
  · simp [idle, empty]

/-- 04 R84: an engine that was idle before, or has an item ACTIVE now, does not become idle. -/
theorem State.settle_of_kept {s t : State} (kept : s.idle = true ∨ t.branch.active ≠ none) : State.settle s t = t := by
  rw [State.settle, if_neg]
  rcases kept with idle | active
  · simp [idle]
  · simp [State.idle, active]

/-- 04 R84: becoming idle changes the branch engine alone. -/
theorem State.settle_frame (s t : State) :
    (State.settle s t).window = t.window ∧ (State.settle s t).slots = t.slots ∧ (State.settle s t).posts = t.posts
      ∧ (State.settle s t).reclaim = t.reclaim ∧ (State.settle s t).notice = t.notice ∧ (State.settle s t).mgmt = t.mgmt
      ∧ (State.settle s t).port = t.port := by
  unfold State.settle
  split <;> simp

/-! ### The rules of one slot -/

/-- 02 R40: what FLUSH leaves of an entry: QUEUED and READY entries become FREE, the ACTIVE one CANCELLED. -/
def Entry.flushed (e : Entry) : Option Entry :=
  match e.phase with
  | .queued | .ready .. => none
  | .active | .cancelled => some { e with phase := .cancelled }

/-- 02 R40: the slots after FLUSH took those of a list. -/
def State.slotsFlushed (s : State) (done : List Slot) : Vector (Option Entry) 8 :=
  Vector.ofFn fun i => if i ∈ done then (s.slots.get i).bind Entry.flushed else s.slots.get i

theorem State.slotsFlushed_get (s : State) (done : List Slot) (i : Slot) :
    (s.slotsFlushed done).get i = if i ∈ done then (s.slots.get i).bind Entry.flushed else s.slots.get i := by
  simp [State.slotsFlushed, Vector.get_eq_getElem]

/-- 02 R40: one slot more, with its entry set to what FLUSH leaves of it. -/
theorem State.slotsFlushed_append (s : State) (done : List Slot) (i : Slot) :
    s.slotsFlushed (done ++ [i]) = (s.slotsFlushed done).set i ((s.slots.get i).bind Entry.flushed) := by
  apply slots_ext
  intro j
  rw [slots_set_get, State.slotsFlushed_get, State.slotsFlushed_get]
  by_cases same : i = j
  · simp [same]
  · simp [same, Ne.symm same]

/-- 02 R40: one slot more, whose entry FLUSH leaves as it is. -/
theorem State.slotsFlushed_append_kept (s : State) {done : List Slot} {i : Slot} (fresh : i ∉ done)
    (kept : (s.slots.get i).bind Entry.flushed = s.slots.get i) : s.slotsFlushed (done ++ [i]) = s.slotsFlushed done := by
  apply slots_ext
  intro j
  rw [State.slotsFlushed_append, slots_set_get, kept]
  split
  · next same => rw [← same, State.slotsFlushed_get, if_neg fresh]
  · rfl

/-- 02 R40: a reference FLUSH removes: that of a QUEUED entry in one of the slots. -/
def State.flushesRef (s : State) (done : List Slot) (r : Ref) : Bool :=
  match r with
  | .entry i => decide (i ∈ done) && s.slotQueued i
  | .posted => false

theorem State.flushesRef_append (s : State) (done : List Slot) (i : Slot) (r : Ref) :
    s.flushesRef (done ++ [i]) r = (s.flushesRef done r || (r == .entry i && s.slotQueued i)) := by
  cases r with
  | posted => rfl
  | entry j =>
    by_cases same : j = i
    · simp [State.flushesRef, same]
    · simp [State.flushesRef, same]

/-- 04 R66: the references that remain after FLUSH took the slots of a list. -/
def State.refsFlushed (s : State) (done : List Slot) : List Ref :=
  s.branch.issueOrder.filter fun r => !s.flushesRef done r

/-- The number of slots of a list whose entry has a property. -/
def State.countOf (s : State) (done : List Slot) (p : Entry → Bool) : Nat := done.countP fun i => (s.slots.get i).any p

theorem State.countOf_append (s : State) (done : List Slot) (i : Slot) (p : Entry → Bool) :
    s.countOf (done ++ [i]) p = s.countOf done p + if (s.slots.get i).any p then 1 else 0 := by
  simp [State.countOf, List.countP_append, List.countP_singleton]

/-- 02 R38: the undelivered reads of the slots of a list. -/
def State.readsOf (s : State) (done : List Slot) : List (Entry × List Word) := done.filterMap s.undeliveredAt

theorem State.readsOf_append (s : State) (done : List Slot) (i : Slot) :
    s.readsOf (done ++ [i]) = s.readsOf done ++ (s.undeliveredAt i).toList := by
  unfold State.readsOf
  cases read : s.undeliveredAt i <;> simp [read]

/-- 02 R38: every undelivered read is a READY entry's. -/
theorem State.readsOf_length_le (s : State) (done : List Slot) : (s.readsOf done).length ≤ s.countOf done Entry.isReady := by
  rw [State.readsOf, List.length_filterMap_eq_countP, State.countOf]
  refine List.countP_mono_left fun i _ gives => ?_
  unfold State.undeliveredAt at gives
  cases slot : s.slots.get i with
  | none => simp [slot] at gives
  | some e =>
    cases phase : e.phase with
    | ready r hold => simp [Entry.isReady, phase]
    | queued | active | cancelled => simp [slot, phase] at gives

/-! ### The notices of the reads lost -/

/-- 06 R108: RECLAIM_OVERFLOW of each of some reads, in order. -/
def State.overflowed (s : State) (reads : List (Entry × List Word)) : State :=
  reads.foldl (fun t p =>
    t.notified .reclaimOverflow (some p.1.route.window) (some p.1.request.requester) s.window.epoch p.1.request.address
      (BitVec.ofNat 16 p.1.request.access.count)) s

theorem State.overflowed_nil (s : State) : s.overflowed [] = s := rfl

theorem State.overflowed_append (s : State) (reads : List (Entry × List Word)) (x : Entry × List Word) :
    s.overflowed (reads ++ [x]) =
      (s.overflowed reads).notified .reclaimOverflow (some x.1.route.window) (some x.1.request.requester) s.window.epoch
        x.1.request.address (BitVec.ofNat 16 x.1.request.access.count) := by
  rw [State.overflowed, List.foldl_append]; rfl

@[simp] theorem State.overflowed_mgmt (s : State) (reads : List (Entry × List Word)) : (s.overflowed reads).mgmt = s.mgmt := by
  induction reads using List.reverseRecOn with
  | nil => rfl
  | append_singleton reads x ih => rw [State.overflowed_append]; exact ih

/-! ### FLUSH over the slots -/

/-- 02 R40: the bridge after FLUSH took the slots of a list. -/
def State.flushed (s : State) (done : List Slot) : State :=
  { s with
    slots := s.slotsFlushed done
    branch.issueOrder := s.refsFlushed done
    reclaim := s.logWith (s.readsOf done)
    notice := (s.overflowed ((s.readsOf done).drop s.room)).notice }

/-- 02 R41: the counts after FLUSH took the slots of a list. A READY entry is reclaimed or discarded. -/
def State.flushCounts (s : State) (done : List Slot) : FlushCounts :=
  { freedQueued := s.countOf done Entry.queued
    reclaimed := min (s.readsOf done).length s.room
    cancelled := s.countOf done (·.phase == .active)
    discarded := s.countOf done Entry.isReady - min (s.readsOf done).length s.room }

/-- 06 R108: the reads lost after one read more. -/
theorem State.drop_room_append (s : State) (reads : List (Entry × List Word)) (x : Entry × List Word) :
    (reads ++ [x]).drop s.room = if reads.length < s.room then reads.drop s.room else reads.drop s.room ++ [x] := by
  split
  · next room => rw [List.drop_of_length_le (by simp; omega), List.drop_of_length_le room.le]
  · next full => rw [List.drop_append_of_le_length (not_lt.mp full)]

/-- 02 R40: a slot that holds no QUEUED entry keeps the references. -/
theorem State.refsFlushed_append_kept (s : State) (done : List Slot) (i : Slot) (unqueued : s.slotQueued i = false) :
    s.refsFlushed (done ++ [i]) = s.refsFlushed done := by
  simp only [State.refsFlushed, State.flushesRef_append, unqueued, Bool.and_false, Bool.or_false]

/-- 02 R40: the reference of a QUEUED entry leaves the list. -/
theorem State.refsFlushed_append_queued (s : State) (done : List Slot) (i : Slot) (queued : s.slotQueued i = true) :
    s.refsFlushed (done ++ [i]) = (s.refsFlushed done).filter (· != .entry i) := by
  simp only [State.refsFlushed, List.filter_filter, State.flushesRef_append, queued, Bool.and_true, Bool.not_or]
  congr 1; funext r
  exact Bool.and_comm _ _

/-- 02 R40: a slot that gives no read leaves the reclaim log and the notices as they were. -/
theorem State.readsOf_append_silent (s : State) (done : List Slot) (i : Slot) (silent : s.undeliveredAt i = none) :
    s.readsOf (done ++ [i]) = s.readsOf done := by
  rw [State.readsOf_append, silent]; exact List.append_nil _

/-- 02 R41: the counts after one slot more. -/
theorem State.flushCounts_append_silent (s : State) {done : List Slot} {i : Slot} {e : Entry} (slot : s.slots.get i = some e)
    (silent : s.undeliveredAt i = none) :
    s.flushCounts (done ++ [i]) =
      { freedQueued := (s.flushCounts done).freedQueued + if e.queued then 1 else 0
        reclaimed := (s.flushCounts done).reclaimed
        cancelled := (s.flushCounts done).cancelled + if e.phase = .active then 1 else 0
        discarded := (s.flushCounts done).discarded + if e.isReady then 1 else 0 } := by
  have bound := s.readsOf_length_le done
  simp only [State.flushCounts, State.countOf_append, s.readsOf_append_silent done i silent, slot, Option.any_some, beq_iff_eq,
    FlushCounts.mk.injEq, true_and]
  split <;> omega

section
variable {s : State} {done : List Slot} {i : Slot} {e : Entry}

theorem Entry.flushed_cancelled (phase : e.phase = .cancelled) : e.flushed = some e := by
  obtain ⟨request, route, p⟩ := e
  obtain rfl : p = .cancelled := phase
  rfl

theorem State.slotQueued_of (slot : s.slots.get i = some e) : s.slotQueued i = e.queued := by simp [State.slotQueued, slot]

/-- 02 R38: a READY entry's read. -/
theorem State.undeliveredAt_ready {r : Result} {hold : Option Nat} (slot : s.slots.get i = some e)
    (phase : e.phase = .ready r hold) :
    s.undeliveredAt i = if e.reclaimable r then some (e, r.data) else none := by
  simp [State.undeliveredAt, slot, phase, Entry.reclaimable_iff]

/-- 02 R40: a slot from which FLUSH takes no read. -/
theorem State.flushed_append_silent (silent : s.undeliveredAt i = none) :
    s.flushed (done ++ [i]) =
      { s.flushed done with slots := s.slotsFlushed (done ++ [i]), branch.issueOrder := s.refsFlushed (done ++ [i]) } := by
  simp only [State.flushed, s.readsOf_append_silent done i silent]

/-- 02 R41: the counts after a slot from which FLUSH takes a read. -/
theorem State.flushCounts_append_read {r : Result} {hold : Option Nat} (slot : s.slots.get i = some e)
    (phase : e.phase = .ready r hold) (reads : s.readsOf (done ++ [i]) = s.readsOf done ++ [(e, r.data)]) :
    s.flushCounts (done ++ [i]) =
      if (s.readsOf done).length < s.room then
        { s.flushCounts done with reclaimed := (s.flushCounts done).reclaimed + 1 }
      else { s.flushCounts done with discarded := (s.flushCounts done).discarded + 1 } := by
  have bound := s.readsOf_length_le done
  have unqueued : e.queued = false := by simp [Entry.queued, phase]
  have ready : e.isReady = true := by simp [Entry.isReady, phase]
  simp only [State.flushCounts, State.countOf_append, reads, slot, Option.any_some, unqueued, ready, phase, List.length_append,
    List.length_singleton]
  by_cases fits : (s.readsOf done).length < s.room
  · simp [fits]; omega
  · simp [fits]; omega

/-- 06 R108: the log has room for the read of one slot more. -/
theorem State.flushed_append_room {d : List Word} (reads : s.readsOf (done ++ [i]) = s.readsOf done ++ [(e, d)])
    (slots : s.slotsFlushed (done ++ [i]) = (s.slotsFlushed done).set i none)
    (refs : s.refsFlushed (done ++ [i]) = s.refsFlushed done) (fits : (s.readsOf done).length < s.room) :
    s.flushed (done ++ [i]) = ((s.flushed done).freeEntry i).handOver e d := by
  have room : ((s.flushed done).freeEntry i).reclaim.hasRoom = true := by
    exact (s.logWith_hasRoom (s.readsOf done)).trans (decide_eq_true fits)
  rw [State.handOver, if_pos room]
  simp only [State.flushed, slots, refs, reads, s.logWith_append_room _ e d fits, s.drop_room_append, if_pos fits]
  rfl

/-- 06 R108: the read of one slot more is lost to a full log. -/
theorem State.flushed_append_full {d : List Word} (reads : s.readsOf (done ++ [i]) = s.readsOf done ++ [(e, d)])
    (slots : s.slotsFlushed (done ++ [i]) = (s.slotsFlushed done).set i none)
    (refs : s.refsFlushed (done ++ [i]) = s.refsFlushed done) (full : ¬(s.readsOf done).length < s.room) :
    s.flushed (done ++ [i]) = ((s.flushed done).freeEntry i).generate ((s.flushed done).overflowEvent e) := by
  simp only [State.flushed, slots, refs, reads, s.logWith_append_full _ _ (not_lt.mp full), s.drop_room_append, if_neg full,
    State.overflowed_append, State.generate_eq_notified, State.notified, State.overflowed_mgmt]
  rfl

/-- 02 R40, 06 R108: a slot from which FLUSH takes a read: it goes to the log, or is lost with its notice. -/
theorem flushSlot_read {r : Result} {hold : Option Nat} (fresh : i ∉ done) (slot : s.slots.get i = some e)
    (phase : e.phase = .ready r hold) (give : e.reclaimable r = true) :
    flushSlot (s.flushed done, s.flushCounts done) i = (s.flushed (done ++ [i]), s.flushCounts (done ++ [i])) := by
  have here : (s.flushed done).slots.get i = some e := by
    simp only [State.flushed, State.slotsFlushed_get, if_neg fresh, slot]
  have reads : s.readsOf (done ++ [i]) = s.readsOf done ++ [(e, r.data)] := by
    rw [State.readsOf_append, State.undeliveredAt_ready slot phase, if_pos give]; rfl
  have refs := s.refsFlushed_append_kept done i (by rw [State.slotQueued_of slot]; simp [Entry.queued, phase])
  have slots : s.slotsFlushed (done ++ [i]) = (s.slotsFlushed done).set i none := by
    rw [s.slotsFlushed_append, slot]; simp [Entry.flushed, phase]
  have room : (s.flushed done).reclaim.hasRoom = decide ((s.readsOf done).length < s.room) := s.logWith_hasRoom _
  simp only [flushSlot, here, phase, if_pos give, room, decide_eq_true_eq, State.flushCounts_append_read slot phase reads]
  split
  · next fits => rw [State.flushed_append_room reads slots refs fits]
  · next full => rw [State.flushed_append_full reads slots refs full]

/-- 02 R40: FLUSH's action on one slot, after some others. -/
theorem flushSlot_eq (fresh : i ∉ done) :
    flushSlot (s.flushed done, s.flushCounts done) i = (s.flushed (done ++ [i]), s.flushCounts (done ++ [i])) := by
  have here : (s.flushed done).slots.get i = s.slots.get i := by
    simp only [State.flushed, State.slotsFlushed_get, if_neg fresh]
  have taken := s.slotsFlushed_append done i
  cases slot : s.slots.get i with
  | none =>
    have silent : s.undeliveredAt i = none := by simp [State.undeliveredAt, slot]
    have kept := s.slotsFlushed_append_kept fresh (by rw [slot]; rfl)
    have refs := s.refsFlushed_append_kept done i (by simp [State.slotQueued, slot])
    have counts : s.flushCounts (done ++ [i]) = s.flushCounts done := by
      simp [State.flushCounts, State.countOf_append, s.readsOf_append_silent done i silent, slot]
    rw [State.flushed_append_silent silent, kept, refs, counts]
    simp only [flushSlot, here, slot]
    rfl
  | some e =>
    have queued := State.slotQueued_of slot
    cases phase : e.phase with
    | queued =>
      have silent : s.undeliveredAt i = none := by simp [State.undeliveredAt, slot, phase]
      have refs := s.refsFlushed_append_queued done i (by simp [queued, Entry.queued, phase])
      rw [State.flushed_append_silent silent, State.flushCounts_append_silent s slot silent, taken, refs, slot]
      simp [flushSlot, here, slot, phase, Entry.queued, Entry.isReady, Entry.flushed]
      exact ⟨rfl, rfl⟩
    | active =>
      have silent : s.undeliveredAt i = none := by simp [State.undeliveredAt, slot, phase]
      have refs := s.refsFlushed_append_kept done i (by simp [queued, Entry.queued, phase])
      rw [State.flushed_append_silent silent, State.flushCounts_append_silent s slot silent, taken, refs, slot]
      simp [flushSlot, here, slot, phase, Entry.queued, Entry.isReady, Entry.flushed]
      rfl
    | cancelled =>
      have silent : s.undeliveredAt i = none := by simp [State.undeliveredAt, slot, phase]
      have refs := s.refsFlushed_append_kept done i (by simp [queued, Entry.queued, phase])
      have kept := s.slotsFlushed_append_kept fresh (by rw [slot]; exact Entry.flushed_cancelled phase)
      rw [State.flushed_append_silent silent, State.flushCounts_append_silent s slot silent, kept, refs]
      simp [flushSlot, here, slot, phase, Entry.queued, Entry.isReady]
      rfl
    | ready r hold =>
      by_cases give : e.reclaimable r = true
      · exact flushSlot_read fresh slot phase give
      · have silent : s.undeliveredAt i = none := by rw [State.undeliveredAt_ready slot phase, if_neg give]
        have refs := s.refsFlushed_append_kept done i (by simp [queued, Entry.queued, phase])
        rw [State.flushed_append_silent silent, State.flushCounts_append_silent s slot silent, taken, refs, slot]
        simp [flushSlot, here, slot, phase, Entry.queued, Entry.isReady, Entry.flushed, give]
        rfl

end

/-- 02 R40: FLUSH over a list of slots, after some others. -/
theorem foldl_flushSlot (s : State) (l done : List Slot) (nodup : (done ++ l).Nodup) :
    l.foldl flushSlot (s.flushed done, s.flushCounts done) = (s.flushed (done ++ l), s.flushCounts (done ++ l)) := by
  induction l generalizing done with
  | nil => simp
  | cons i l ih =>
    have fresh : i ∉ done := fun mem => List.disjoint_of_nodup_append nodup mem (by simp)
    rw [List.foldl_cons, flushSlot_eq fresh, ih _ (by simpa using nodup)]
    simp

/-- 02 R40, R41: FLUSH over every slot, with its counts. -/
theorem State.flushSlots_eq (s : State) :
    s.flushSlots = (s.flushed (List.finRange 8), s.flushCounts (List.finRange 8)) := by
  have start : (s, FlushCounts.zero) = (s.flushed [], s.flushCounts []) := by
    have slots : s.slotsFlushed [] = s.slots := slots_ext fun i => by simp [State.slotsFlushed_get]
    have refs : s.refsFlushed [] = s.branch.issueOrder := by
      simp only [State.refsFlushed]
      exact List.filter_eq_self.mpr fun r _ => by cases r <;> rfl
    have log : s.logWith [] = s.reclaim := by simp [State.logWith]
    simp only [State.flushed, State.flushCounts, slots, refs, State.readsOf, List.filterMap_nil, log, List.drop_nil,
      State.overflowed_nil]
    rfl
  rw [State.flushSlots, start, foldl_flushSlot s _ [] (by simpa using List.nodup_finRange 8)]
  rfl

/-- 02 R40, R41: the bridge after FLUSH dealt with every slot and told its counts. -/
def State.flushTold (s : State) (r : Requester) : State :=
  (s.flushed (List.finRange 8)).generate
    ((s.flushed (List.finRange 8)).flushedEvent r (s.flushCounts (List.finRange 8)))

/-- 02 R40, R41: FLUSH. -/
theorem State.flush_eq (s : State) (r : Requester) :
    s.flush r = (State.settle s (s.flushTold r)).resultDone (.command .flush) r 0 := by
  simp only [State.flush, s.flushSlots_eq, State.flushTold]

/-- 02 R40, R41: FLUSH, written by a requester that may. -/
theorem exec_flush (s : State) (r : Requester) (accepted : s.accepts r) :
    exec (.flush r) s = .next ((State.settle s (s.flushTold r)).reported (.command .flush) r .done .none 0) := by
  rw [exec, execFlush, s.apertureGate_accepted r _ accepted, s.flush_eq r, State.resultDone_answer]

/-! ### What FLUSH leaves -/

/-- 02 R40: the slots after FLUSH. -/
theorem State.flushTold_get (s : State) (r : Requester) (i : Slot) :
    (s.flushTold r).slots.get i = (s.slots.get i).bind Entry.flushed := by
  simp [State.flushTold, State.flushed, State.slotsFlushed_get]

/-- 04 R66: with one reference for each QUEUED entry, FLUSH leaves the posted references. -/
theorem State.refsFlushed_all (s : State) (tracked : s.ItemsTracked) :
    s.refsFlushed (List.finRange 8) = s.branch.issueOrder.filter (· == .posted) := by
  obtain ⟨-, referenced, -⟩ := tracked
  refine List.filter_congr fun r mem => ?_
  cases r with
  | posted => rfl
  | entry i => simp [State.flushesRef, (referenced i).mp mem]

/-- Settles O55: by FLUSH over all slots, with the engine idle when no item is ACTIVE and only entries were referenced. -/
theorem flushEmptiesThePendingTable : Obligations.FlushEmptiesThePendingTable := by
  intro s r accepted tracked
  obtain ⟨window, slots, posts, -⟩ := State.settle_frame s (s.flushTold r)
  have branch : (s.flushTold r).branch = { s.branch with issueOrder := s.branch.issueOrder.filter (· == .posted) } := by
    rw [← s.refsFlushed_all tracked]; rfl
  refine ⟨_, exec_flush s r accepted, fun i => ?slot, posts, window, ?engine⟩
  case slot =>
    show (State.settle s (s.flushTold r)).slots.get i = _
    rw [slots, s.flushTold_get]
    rfl
  case engine =>
    intro kept
    show (State.settle s (s.flushTold r)).branch = _
    by_cases busy : s.branch.active = none ∧ s.branch.issueOrder ≠ []
    · obtain ⟨inactive, waiting⟩ := busy
      rw [if_pos ⟨inactive, waiting⟩, State.settle_of_busy (by simp [State.idle, waiting]) (by rw [branch]; exact inactive)]
      exact State.afterEnd_branch branch rfl
    · rw [if_neg busy, State.settle_of_kept, branch]
      rw [branch]
      by_cases inactive : s.branch.active = none
      · exact .inl (by simpa [State.idle, inactive] using busy)
      · exact .inr inactive

/-! ### What FLUSH reports -/

/-- 11 R168: the detail of PENDING_FLUSHED. -/
theorem detailPendingFlushed_eq {queued reclaimed cancelled discarded : Nat}
    (bound : queued ≤ 8 ∧ reclaimed ≤ 8 ∧ cancelled ≤ 8) :
    detailPendingFlushed queued reclaimed cancelled discarded =
      BitVec.ofNat 32 (queued + 2 ^ 8 * reclaimed + 2 ^ 16 * cancelled + 2 ^ 24 * discarded) := by
  have fields := packed_cons (0, 8, queued) [(8, 8, reclaimed), (16, 8, cancelled), (24, 8, discarded)] rfl
  refine Eq.trans fields.symm ?_
  apply BitVec.eq_of_toNat_eq
  simp [packed]
  omega

theorem State.countOf_le (s : State) (p : Entry → Bool) : s.countOf (List.finRange 8) p ≤ 8 := by
  have := List.countP_le_length (p := fun i => (s.slots.get i).any p) (l := List.finRange 8)
  rwa [List.length_finRange] at this

/-- 02 R41: PENDING_FLUSHED tells the counts of the state FLUSH was taken in. -/
theorem State.flushTold_notice (s : State) (r : Requester) :
    (s.flushTold r).notice =
      ((s.overflowed (s.undelivered.drop s.room)).notified .pendingFlushed none (some r) s.window.epoch
        (BitVec.ofNat 32
          (s.countOf (List.finRange 8) Entry.queued + 2 ^ 8 * min s.undelivered.length s.room
            + 2 ^ 16 * s.countOf (List.finRange 8) (·.phase == .active)
            + 2 ^ 24 * (s.countOf (List.finRange 8) Entry.isReady - min s.undelivered.length s.room)))
        (BitVec.ofNat 16 s.posts.length)).notice := by
  have room : s.room ≤ 8 := Nat.sub_le ..
  rw [← detailPendingFlushed_eq ⟨s.countOf_le _, (min_le_right _ _).trans room, s.countOf_le _⟩, State.flushTold,
    State.generate_eq_notified]
  exact State.notified_notice (s := s.overflowed _) (t := s.flushed _) rfl (s.overflowed_mgmt _).symm ..

/-- Settles O56: by FLUSH over all slots, with its reads handed over in slot order. -/
theorem flushReclaimsAndReports : Obligations.FlushReclaimsAndReports := by
  intro s r accepted having queued cancelled ready reads reclaimed overflowed
  obtain ⟨-, -, -, reclaim, notice, mgmt, port⟩ := State.settle_frame s (s.flushTold r)
  have count (p : Entry → Bool) : s.countOf (List.finRange 8) p = having p := List.countP_eq_length_filter
  refine ⟨_, exec_flush s r accepted, reclaim, ?notice, ?mgmt, ?port⟩
  case notice =>
    have told := s.flushTold_notice r
    simp only [count] at told
    exact notice.trans told
  case mgmt =>
    simp only [State.reported, mgmt]
    rfl
  case port =>
    simp only [State.reported, port]
    rfl

end Sys2Proof.Machine

/-! What a request outside the aperture does: the check sequence step by step, and what it can do to the pending table and the
reclaim log. -/

namespace Sys2Proof.Machine

/-! ### The lowest slot with a property -/

/-- The lowest number below n with a property. -/
theorem find?_finRange_eq_some {n : Nat} (p : Fin n → Bool) (i : Fin n) :
    (List.finRange n).find? p = some i ↔ p i = true ∧ ∀ j < i, p j = false := by
  rw [List.find?_eq_some_iff_getElem]
  constructor
  · rintro ⟨holds, k, hk, rfl, before⟩
    refine ⟨holds, fun j lt => ?_⟩
    simpa using before j.val (by simpa [Fin.lt_def] using lt)
  · rintro ⟨holds, before⟩
    exact ⟨holds, i.val, by simp, by simp, fun j lt => by simpa using before ⟨j, by omega⟩ lt⟩

/-- 02 R30: the lowest FREE slot. -/
theorem State.freeSlot_eq_some (s : State) (i : Slot) :
    s.freeSlot = some i ↔ s.slots.get i = none ∧ ∀ j < i, s.slots.get j ≠ none := by
  simp [State.freeSlot, find?_finRange_eq_some, Option.isSome_iff_ne_none]

theorem State.freeSlot_eq_none (s : State) : s.freeSlot = none ↔ ∀ i : Slot, s.slots.get i ≠ none := by
  simp [State.freeSlot]

/-! ### The pending match and the reclaim match -/

/-- 08 R138 step 3: a live entry with the key answers. -/
theorem State.matchOrPass_live (s : State) (q : TrunkRequest) {i : Slot} {e : Entry} (found : s.matchLive q = some i)
    (slot : s.slots.get i = some e) : s.matchOrPass q = s.answerEntry i e q := by
  simp [State.matchOrPass, found, slot]

/-- 08 R138 step 4: with no live entry of the key, the reclaim log and the windows decide. -/
theorem State.matchOrPass_pass (s : State) (q : TrunkRequest) (fresh : s.matchLive q = none) :
    s.matchOrPass q = s.reclaimOrWindow q := by
  simp [State.matchOrPass, fresh]

/-- 06 R110: the record a reclaim match finds has the request's key. -/
theorem State.matchReclaim_eq_some (s : State) (q : TrunkRequest) {k : Nat} (found : s.matchReclaim q = some k) :
    ∃ r, s.reclaim.records[k]? = some r ∧ r.key = q.key := by
  obtain ⟨inside, key, -⟩ := List.findIdx?_eq_some_iff_getElem.mp found
  exact ⟨_, List.getElem?_eq_getElem inside, by simpa using key⟩

/-- 06 R110: a late delivery removes its record, and nothing from the pending table. -/
theorem State.lateDeliver_eq (s : State) {k : Nat} {r : ReclaimRecord} (found : s.reclaim.records[k]? = some r) :
    (s.lateDeliver k).slots = s.slots ∧ (s.lateDeliver k).reclaim.records = s.reclaim.records.eraseIdx k
      ∧ (s.lateDeliver k).mgmt = s.mgmt := by
  simp [State.lateDeliver, found]

/-! ### What a request can do to the pending table and the reclaim log -/

/-- 08 R138: what a request outside the aperture can do to the pending table and the reclaim log. -/
inductive State.RequestStep (s : State) (q : TrunkRequest) (t : State) : Prop
  | kept (slots : t.slots = s.slots) (reclaim : t.reclaim = s.reclaim) (mgmt : t.mgmt = s.mgmt)
  | delivered (i : Slot) (e : Entry) (slot : s.slots.get i = some e) (key : e.request.key = q.key)
      (slots : t.slots = s.slots.set i none) (reclaim : t.reclaim = s.reclaim) (mgmt : t.mgmt = s.mgmt)
  | admitted (i : Slot) (route : Route) (free : s.slots.get i = none) (fresh : ∀ j : Slot, s.liveKey j ≠ some q.key)
      (below : s.liveCount q.requester < s.mgmt.quota.toNat)
      (slots : t.slots = s.slots.set i (some { request := q, route := route, phase := .queued }))
      (reclaim : t.reclaim = s.reclaim) (mgmt : t.mgmt = s.mgmt)
  | late (k : Nat) (r : ReclaimRecord) (found : s.reclaim.records[k]? = some r) (key : r.key = q.key)
      (slots : t.slots = s.slots) (records : t.reclaim.records = s.reclaim.records.eraseIdx k) (mgmt : t.mgmt = s.mgmt)

/-- 02 R27, R28. -/
theorem State.answerEntry_requestStep (s : State) (q : TrunkRequest) {i : Slot} {e : Entry} (slot : s.slots.get i = some e)
    (key : e.request.key = q.key) : s.RequestStep q (s.answerEntry i e q) := by
  unfold State.answerEntry
  split
  · exact .kept rfl rfl rfl
  · split
    · exact .delivered i e slot key rfl rfl rfl
    · exact .kept rfl rfl rfl

/-- 02 R30, R31. -/
theorem State.admitDelayed_requestStep (s : State) (q : TrunkRequest) (route : Route)
    (fresh : ∀ j : Slot, s.liveKey j ≠ some q.key) : s.RequestStep q (s.admitDelayed q route) := by
  unfold State.admitDelayed
  split
  · next i taken =>
    unfold State.admissionSlot at taken
    split at taken
    · next below => exact .admitted i route ((s.freeSlot_eq_some i).mp taken).1 fresh below (by simp) (by simp) (by simp)
    · simp at taken
  · exact .kept rfl rfl rfl

/-- 03 R49, R50: a posted write takes no slot. -/
theorem State.admitPosted_requestStep (s : State) (q : TrunkRequest) (words : List LaneWord) (route : Route) :
    s.RequestStep q (s.admitPosted q words route) := by
  unfold State.admitPosted
  split
  · exact .kept (by simp) (by simp) (by simp)
  · exact .kept rfl rfl rfl

/-- 08 R142 to R144. -/
theorem State.windowRequest_requestStep (s : State) (q : TrunkRequest) (fresh : ∀ j : Slot, s.liveKey j ≠ some q.key) :
    s.RequestStep q (s.windowRequest q) := by
  unfold State.windowRequest
  split
  · exact .kept rfl rfl rfl
  · next w _ =>
    split
    · exact .kept rfl rfl rfl
    · split
      · exact .kept rfl rfl rfl
      · split
        · exact .kept rfl rfl rfl
        · simp only [State.admission]
          split
          · exact .kept rfl rfl rfl
          · split
            · exact s.admitDelayed_requestStep q _ fresh
            · split
              · exact s.admitPosted_requestStep q _ _
              · exact s.admitDelayed_requestStep q _ fresh

/-- 08 R138 steps 3 to 9. -/
theorem State.matchOrPass_requestStep (s : State) (q : TrunkRequest) : s.RequestStep q (s.matchOrPass q) := by
  cases found : s.matchLive q with
  | some i =>
    obtain ⟨e, slot, -, key⟩ := (s.liveKey_eq_some i q.key).mp (s.matchLive_eq_some q i found)
    rw [s.matchOrPass_live q found slot]
    exact s.answerEntry_requestStep q slot key
  | none =>
    have fresh := (s.matchLive_eq_none q).mp found
    rw [s.matchOrPass_pass q found, State.reclaimOrWindow]
    split
    · next k _ matched =>
      obtain ⟨r, record, key⟩ := s.matchReclaim_eq_some q matched
      obtain ⟨slots, records, mgmt⟩ := s.lateDeliver_eq record
      exact .late k r record key slots records mgmt
    · exact s.windowRequest_requestStep q fresh

/-- 08 R138: a request outside the aperture. -/
theorem State.present_requestStep (s : State) (q : TrunkRequest) (outside : s.inAperture q.address = false) :
    s.RequestStep q (s.present q) := by
  unfold State.present
  split
  · exact .kept rfl rfl rfl
  · split
    · exact .kept rfl rfl rfl
    · rw [if_neg (by simp [outside])]
      exact s.matchOrPass_requestStep q

/-- A filter that drops an element is blind to its removal. -/
theorem filter_eraseIdx_of_dropped {α : Type} (p : α → Bool) (l : List α) (k : Nat) {x : α} (at_k : l[k]? = some x)
    (dropped : p x = false) : (l.eraseIdx k).filter p = l.filter p := by
  induction l generalizing k with
  | nil => rfl
  | cons y l ih =>
    cases k with
    | zero =>
      obtain rfl : y = x := by simpa using at_k
      simp [dropped]
    | succ k =>
      rw [List.eraseIdx_cons_succ, List.filter_cons, List.filter_cons, ih k (by simpa using at_k)]

/-- Settles O20: whatever a request outside the aperture takes or places has the request's own key. -/
theorem onlyTheAdmittedRequesterIsServed : Obligations.OnlyTheAdmittedRequesterIsServed := by
  intro s q outside
  have others {i : Slot} {e : Entry} (stays : (s.present q).slots.get i = s.slots.get i) (mem : e ∈ s.slots.get i) :
      (s.present q).slots.get i = some e := stays.trans mem
  refine ⟨s.present q, rfl, ?_⟩
  cases s.present_requestStep q outside with
  | kept slots reclaim => exact ⟨fun i e mem _ => others (by rw [slots]) mem, by rw [reclaim]⟩
  | delivered j d slot key slots reclaim =>
    refine ⟨fun i e mem foreign => others ?_ mem, by rw [reclaim]⟩
    rw [slots, slots_set_get, if_neg]
    rintro rfl
    obtain rfl : d = e := Option.some.inj (slot.symm.trans mem)
    exact foreign (congrArg Key.requester key)
  | admitted j route free fresh below slots reclaim =>
    refine ⟨fun i e mem _ => others ?_ mem, by rw [reclaim]⟩
    rw [slots, slots_set_get, if_neg]
    rintro rfl
    simp [free] at mem
  | late k r found key slots records =>
    refine ⟨fun i e mem _ => others (by rw [slots]) mem, ?_⟩
    have own : r.requester = q.requester := congrArg Key.requester key
    rw [records, filter_eraseIdx_of_dropped _ _ _ found (by simp [own])]

end Sys2Proof.Machine

/-! What one step can do to the keys of the live entries, and the two laws on the pending table. -/

namespace Sys2Proof.Machine

/-! ### Live keys that stay or go -/

/-- No slot holds a live entry it did not hold before, and the quota is as before or in its range (02 R33). -/
def State.LosesKeys (s t : State) : Prop :=
  (∀ i : Slot, t.liveKey i = none ∨ t.liveKey i = s.liveKey i)
    ∧ (t.mgmt.quota = s.mgmt.quota ∨ t.mgmt.quota.toNat ≤ 4)

theorem State.LosesKeys.of_same {s t : State} (slots : t.slots = s.slots) (quota : t.mgmt.quota = s.mgmt.quota) :
    s.LosesKeys t :=
  ⟨fun i => .inr (by rw [State.liveKey, slots, State.liveKey]), .inl quota⟩

theorem State.LosesKeys.refl (s : State) : s.LosesKeys s := .of_same rfl rfl

theorem State.LosesKeys.trans {s t u : State} (first : s.LosesKeys t) (second : t.LosesKeys u) : s.LosesKeys u := by
  obtain ⟨keys, quota⟩ := first
  obtain ⟨keys', quota'⟩ := second
  refine ⟨fun i => ?_, ?_⟩
  · rcases keys' i with gone | same
    · exact .inl gone
    · rw [same]; exact keys i
  · rcases quota' with same | legal
    · rw [same]; exact quota
    · exact .inr legal

/-- The key of an entry while it is live. -/
def Entry.liveKey (e : Entry) : Option Key := if e.live then some e.request.key else none

theorem State.liveKey_eq (s : State) (i : Slot) : s.liveKey i = (s.slots.get i).bind Entry.liveKey := rfl

/-- Each slot holds what it held, nothing, or an entry whose live key its entry had before. -/
theorem State.LosesKeys.of_slots {s t : State} (quota : t.mgmt.quota = s.mgmt.quota)
    (slots : ∀ i : Slot, t.slots.get i = s.slots.get i ∨ t.slots.get i = none
      ∨ ∃ e e', s.slots.get i = some e ∧ t.slots.get i = some e' ∧ (e'.liveKey = none ∨ e'.liveKey = e.liveKey)) :
    s.LosesKeys t := by
  refine ⟨fun i => ?_, .inl quota⟩
  simp only [State.liveKey_eq]
  rcases slots i with same | free | ⟨e, e', before, after, key⟩
  · exact .inr (by rw [same])
  · exact .inl (by rw [free]; rfl)
  · rw [before, after]; exact key

/-- Everything one command can do to the keys of the live entries and to the quota. -/
inductive State.TableStep (s t : State) : Prop
  | loses (change : s.LosesKeys t)
  | admits (i : Slot) (k : Key) (free : s.liveKey i = none) (fresh : ∀ j : Slot, s.liveKey j ≠ some k)
      (below : s.liveCount k.requester < s.mgmt.quota.toNat)
      (keys : ∀ j : Slot, t.liveKey j = if i = j then some k else s.liveKey j) (quota : t.mgmt.quota = s.mgmt.quota)

/-! ### The two laws -/

/-- 02 R26: the live count counts the live keys of the requester. -/
theorem State.liveCount_eq (s : State) (r : Requester) :
    s.liveCount r = (List.finRange 8).countP fun i => (s.liveKey i).any (·.requester == r) := by
  unfold State.liveCount
  congr 1; funext i
  rw [State.liveKey_eq]
  cases s.slots.get i with
  | none => rfl
  | some e => cases live : e.live <;> simp [Entry.liveKey, live, TrunkRequest.key]

/-- 02 R26: no live count rises when no live entry is added. -/
theorem State.LosesKeys.liveCount_le {s t : State} (change : s.LosesKeys t) (r : Requester) :
    t.liveCount r ≤ s.liveCount r := by
  rw [State.liveCount_eq, State.liveCount_eq]
  refine List.countP_mono_left fun i _ counted => ?_
  rcases change.1 i with gone | same
  · simp [gone] at counted
  · rwa [← same]

/-- Two tests that differ at one element alone, where the first fails: the second counts that element besides. -/
theorem countP_of_differ_at {α : Type} [DecidableEq α] {l : List α} {i : α} (nodup : l.Nodup) (mem : i ∈ l)
    {p p' : α → Bool} (fails : p i = false) (same : ∀ j, j ≠ i → p' j = p j) : l.countP p' = l.countP p + if p' i then 1 else 0 := by
  have rest : (l.erase i).countP p' = (l.erase i).countP p :=
    List.countP_congr fun j there => by rw [same j ((nodup.mem_erase_iff).mp there).1]
  rw [(List.perm_cons_erase mem).countP_eq, (List.perm_cons_erase mem).countP_eq, List.countP_cons, List.countP_cons, rest,
    fails]
  simp

/-- 02 R26: one more live entry raises its requester's count by one, and no other. -/
theorem State.liveCount_admits {s t : State} {i : Slot} {k : Key} (free : s.liveKey i = none)
    (keys : ∀ j : Slot, t.liveKey j = if i = j then some k else s.liveKey j) (r : Requester) :
    t.liveCount r = s.liveCount r + if k.requester = r then 1 else 0 := by
  have count := countP_of_differ_at (p := fun j => (s.liveKey j).any (·.requester == r))
    (p' := fun j => (t.liveKey j).any (·.requester == r)) (List.nodup_finRange 8) (List.mem_finRange i) (by simp [free])
    fun j other => by rw [keys, if_neg (Ne.symm other)]
  rw [State.liveCount_eq, State.liveCount_eq, count]
  simp [keys]

/-- 02 R25: each way the keys can change keeps them apart. -/
theorem State.TableStep.uniqueLiveKeys {s t : State} (change : s.TableStep t) (unique : s.UniqueLiveKeys) :
    t.UniqueLiveKeys := by
  intro i j differ live
  cases change with
  | loses change =>
    have same := (change.1 i).resolve_left live
    rw [same] at live ⊢
    rcases change.1 j with gone | kept
    · rw [gone]; exact live
    · rw [kept]; exact unique i j differ live
  | admits k key free fresh below keys =>
    rw [keys] at live ⊢
    rw [keys]
    split
    · next here =>
      rw [if_neg (by rw [here]; exact differ)]
      exact (fresh j).symm
    · next there =>
      rw [if_neg there] at live
      split
      · exact fresh i
      · exact unique i j differ live

/-- 02 R26: each way the table can change keeps the quota. -/
theorem State.TableStep.withinQuota {s t : State} (change : s.TableStep t) (within : s.WithinQuota) : t.WithinQuota := by
  obtain ⟨legal, counts⟩ := within
  cases change with
  | loses change =>
    refine ⟨?_, fun r => (change.liveCount_le r).trans (counts r)⟩
    rcases change.2 with same | inRange
    · rwa [same]
    · exact inRange
  | admits i k free fresh below keys quota =>
    refine ⟨by rwa [quota], fun r => ?_⟩
    rw [State.liveCount_admits free keys r]
    split
    · next own => rw [← own]; omega
    · exact counts r

/-! ### Updates of slots -/

/-- A slot becomes FREE. -/
theorem State.LosesKeys.of_free {s t : State} (i : Slot) (slots : t.slots = s.slots.set i none)
    (quota : t.mgmt.quota = s.mgmt.quota) : s.LosesKeys t := by
  refine .of_slots quota fun j => ?_
  rw [slots, slots_set_get]
  split
  · exact .inr (.inl rfl)
  · exact .inl rfl

/-- A slot's entry is replaced by one with the same live key, or with none. -/
theorem State.LosesKeys.of_put {s t : State} {i : Slot} {e e' : Entry} (slot : s.slots.get i = some e)
    (key : e'.liveKey = none ∨ e'.liveKey = e.liveKey) (slots : t.slots = s.slots.set i (some e'))
    (quota : t.mgmt.quota = s.mgmt.quota) : s.LosesKeys t := by
  refine .of_slots quota fun j => ?_
  rw [slots, slots_set_get]
  split
  · next here => exact .inr (.inr ⟨e, e', here ▸ slot, rfl, key⟩)
  · exact .inl rfl

/-- Every slot's entry is removed, or replaced by one with the same live key or with none. -/
theorem State.LosesKeys.of_bind {s t : State} (f : Entry → Option Entry)
    (key : ∀ e e', f e = some e' → e'.liveKey = none ∨ e'.liveKey = e.liveKey)
    (slots : ∀ i : Slot, t.slots.get i = (s.slots.get i).bind f) (quota : t.mgmt.quota = s.mgmt.quota) : s.LosesKeys t := by
  refine .of_slots quota fun i => ?_
  rw [slots]
  cases before : s.slots.get i with
  | none => exact .inl rfl
  | some e =>
    cases after : f e with
    | none => exact .inr (.inl after)
    | some e' => exact .inr (.inr ⟨e, e', rfl, after, key e e' after⟩)

/-- 02 R25: an entry that is not CANCELLED is live. -/
theorem Entry.liveKey_of_live {e : Entry} (live : e.phase ≠ .cancelled) : e.liveKey = some e.request.key := by
  rw [Entry.liveKey, if_pos]
  unfold Entry.live
  split
  · next gone => exact absurd gone live
  · rfl

/-! ### The end of an item -/

/-- 02 R35, R42: the owner's part of an end. -/
theorem State.ownerTakes_losesKeys (s : State) (r : Ref) (result : Result) : s.LosesKeys (s.ownerTakes r result) := by
  cases r with
  | posted => exact .of_same rfl rfl
  | entry i =>
    simp only [State.ownerTakes]
    split
    · next e slot =>
      split
      · exact .of_free i rfl rfl
      · next live =>
        refine .of_put slot (.inr ?_) rfl rfl
        rw [Entry.liveKey_of_live live, Entry.liveKey_of_live (by simp [State.readyEntry])]
        rfl
    · exact .refl s

/-- 05 R96: a purged entry stays live. -/
theorem State.purgeEntry_liveKey (s : State) (w : WindowNo) (ep : BitVec 8) (e : Entry) :
    (s.purgeEntry w ep e).liveKey = e.liveKey := by
  unfold State.purgeEntry
  split
  · next taken =>
    have queued : e.phase = .queued := by simpa [Entry.queued] using (Bool.and_eq_true_iff.mp taken).1
    rw [Entry.liveKey_of_live (by simp [State.readyEntry]), Entry.liveKey_of_live (by simp [queued])]
    rfl
  · rfl

/-- 05 R95. -/
theorem State.fenceHandling_losesKeys (s : State) (it : Item) (index : BranchIndex) :
    s.LosesKeys (s.fenceHandling it index) := by
  rw [State.fenceHandling_eq]
  refine .of_bind (fun e => some (s.purgeEntry it.route.window it.route.epoch e)) ?_ (fun i => mapSlots_get _ _ i) rfl
  intro e e' purged
  obtain rfl := Option.some.inj purged
  exact .inr (s.purgeEntry_liveKey _ _ e)

/-- 04 R79 steps 3 and 4. -/
theorem State.engineReport_losesKeys (s : State) (ending : Ending) (it : Item) (p : Progress) (index : BranchIndex) :
    s.LosesKeys (s.engineReport ending it p index) := by
  cases ending with
  | ok => simp only [State.engineReport]; split <;> exact .of_same rfl rfl
  | device | skipped => exact .of_same rfl rfl
  | fenced => exact s.fenceHandling_losesKeys it index

/-- 02 R42. -/
theorem State.disposeCancelled_losesKeys (s : State) (e : Option Entry) (r : Result) :
    s.LosesKeys (s.disposeCancelled e r) := by
  cases e with
  | none => exact .refl s
  | some e =>
    simp only [State.disposeCancelled]
    split
    · exact .of_same (by simp) (by simp)
    · exact .refl s

/-- 04 R84. -/
theorem State.settle_losesKeys (s t : State) : t.LosesKeys (State.settle s t) := by
  obtain ⟨-, slots, -, -, -, mgmt, -⟩ := State.settle_frame s t
  exact .of_same slots (by rw [mgmt])

/-- 04 R79. -/
theorem State.endItem_losesKeys (s : State) (ending : Ending) : s.LosesKeys (s.endItem ending) := by
  rcases s.endItem_cases ending with same | ⟨p, it, active, item⟩
  · rw [same]; exact .refl s
  · rw [s.endItem_eq ending active item]
    have inactive : s.LosesKeys { s with branch.active := none } := .of_same rfl rfl
    exact inactive.trans <| (State.ownerTakes_losesKeys _ _ _).trans <| (State.engineReport_losesKeys ..).trans <|
      (State.disposeCancelled_losesKeys ..).trans (State.settle_losesKeys ..)

/-- 05 R90. -/
theorem State.expireHandshake_losesKeys (s : State) : s.LosesKeys s.expireHandshake := by
  unfold State.expireHandshake
  split
  · exact .refl s
  · split
    · exact .refl s
    · split
      · exact .of_same rfl rfl
      · split <;> exact s.endItem_losesKeys _

/-! ### Other rows of the table and the engine -/

/-- 04 R69: what can be taken waits. -/
theorem State.waitingItem_of_takeable {s : State} {r : Ref} {it : Item} (found : s.takeable = some (r, it)) :
    s.waitingItem r = some it := by
  unfold State.takeable at found
  split at found
  · simp at found
  · split at found
    · obtain ⟨_, waiting, same⟩ := Option.map_eq_some_iff.mp found
      obtain ⟨rfl, rfl⟩ := Prod.mk.inj same
      exact waiting
    · simp at found

/-- 04 R66: an entry that waits is QUEUED. -/
theorem State.queued_of_waitingItem {s : State} {i : Slot} {it : Item} (waiting : s.waitingItem (.entry i) = some it) :
    ∃ e, s.slots.get i = some e ∧ e.phase = .queued := by
  obtain ⟨e, slot, queued⟩ := Option.bind_eq_some_iff.mp waiting
  refine ⟨e, slot, ?_⟩
  by_contra other
  simp [Entry.queued_eq_false other] at queued

/-- 04 R69: the entry taken was QUEUED and stays live. -/
theorem execTakeHead_losesKeys (s : State) : ∃ t : State, execTakeHead s = .next t ∧ s.LosesKeys t := by
  unfold execTakeHead
  split
  · next r it found =>
    refine ⟨_, rfl, ?_⟩
    cases r with
    | posted => exact .of_same rfl rfl
    | entry i =>
      obtain ⟨e, slot, queued⟩ := State.queued_of_waitingItem (State.waitingItem_of_takeable found)
      refine .of_put slot (e' := { e with phase := .active }) (.inr ?_) (by simp [State.markTaken, slot]) rfl
      rw [Entry.liveKey_of_live (by simp), Entry.liveKey_of_live (by simp [queued])]
  · exact ⟨s, rfl, .refl s⟩

/-- 04 R76. -/
theorem execBranchAck_losesKeys (data : HalfWord) (s : State) :
    ∃ t : State, execBranchAck data s = .next t ∧ s.LosesKeys t := by
  unfold execBranchAck
  split
  · exact ⟨s, rfl, .refl s⟩
  · next p _ =>
    split
    · exact ⟨s, rfl, .refl s⟩
    · next c _ =>
      have acked : s.LosesKeys { s with branch.active := some (p.acked c data (s.activeLimit p)) } := .of_same rfl rfl
      dsimp only
      split
      · exact ⟨_, rfl, acked⟩
      · exact ⟨_, rfl, acked.trans (State.endItem_losesKeys _ _)⟩

/-- 02 R37. -/
theorem State.expireHold_losesKeys (s : State) (i : Slot) : s.LosesKeys (s.expireHold i) := by
  unfold State.expireHold
  split
  · split
    · exact .of_free i (by simp) (by simp)
    · exact .refl s
  · exact .refl s

/-- 02 R40. -/
theorem Entry.flushed_liveKey (e e' : Entry) (left : e.flushed = some e') : e'.liveKey = none := by
  unfold Entry.flushed at left
  split at left
  · simp at left
  · simp at left
  · obtain rfl := Option.some.inj left; rfl
  · obtain rfl := Option.some.inj left; rfl

/-- 02 R40. -/
theorem State.flush_losesKeys (s : State) (r : Requester) : s.LosesKeys (s.flush r) := by
  have told : s.LosesKeys (s.flushTold r) :=
    .of_bind Entry.flushed (fun e e' left => .inl (e.flushed_liveKey e' left)) (s.flushTold_get r) rfl
  rw [s.flush_eq r]
  exact told.trans <| (State.settle_losesKeys ..).trans (.of_same rfl rfl)

/-- 09 R156: time leaves every key. -/
theorem State.elapse_losesKeys (s : State) (n : Nat) : s.LosesKeys (s.elapse n) := by
  unfold State.elapse
  split
  · exact .refl s
  · refine .of_bind (fun e => some (e.elapse n)) ?_ (fun i => mapSlots_get _ _ i) rfl
    intro e e' later
    obtain rfl := Option.some.inj later
    rcases e with ⟨request, route, phase⟩
    cases phase <;> exact .inr rfl

/-! ### Aperture writes -/

/-- 09 R159: no entry is left. -/
theorem State.bridgeReset_losesKeys (s : State) (r : Requester) : s.LosesKeys (s.bridgeReset r) := by
  rw [s.bridgeReset_eq r]
  refine .of_slots rfl fun i => .inr (.inl ?_)
  exact noSlots_get i

/-- 05 R100. -/
theorem State.branchAbort_losesKeys (s : State) (r : Requester) : s.LosesKeys (s.branchAbort r) := by
  unfold State.branchAbort
  split
  · exact (s.endItem_losesKeys _).trans (.of_same rfl rfl)
  · exact .of_same rfl rfl

theorem State.takeCommand_losesKeys (s : State) (r : Requester) (argument : BitVec 8) (c : Command) :
    s.LosesKeys (s.takeCommand r argument c) := by
  cases c with
  | commit => simp only [State.takeCommand, State.commit]; split <;> exact .of_same rfl rfl
  | unfence =>
    simp only [State.takeCommand, State.unfence]
    split
    · split <;> exact .of_same rfl rfl
    · exact .of_same rfl rfl
  | flush => exact s.flush_losesKeys r
  | reclaimPop => simp only [State.takeCommand, State.reclaimPop]; split <;> exact .of_same rfl rfl
  | noticeStart =>
    simp only [State.takeCommand, State.noticeStart]
    split
    · split
      · exact .of_same rfl rfl
      · split <;> exact .of_same rfl rfl
    · exact .of_same rfl rfl
    · exact .of_same rfl rfl
  | park => simp only [State.takeCommand, State.park]; split <;> exact .of_same rfl rfl
  | wake => simp only [State.takeCommand, State.wake]; split <;> exact .of_same rfl rfl
  | branchAbort => exact s.branchAbort_losesKeys r
  | bridgeReset => exact s.bridgeReset_losesKeys r
  | revert | reclaimClear | noticeStop | timeSet => exact .of_same rfl rfl

theorem State.commandWrite_losesKeys (s : State) (r : Requester) (code argument : BitVec 8) :
    s.LosesKeys (s.commandWrite r code argument) := by
  unfold State.commandWrite
  split
  · exact s.takeCommand_losesKeys r argument _
  · exact .of_same rfl rfl

/-- 09 R154: a setting leaves the slots; the quota takes a value in its range alone (02 R33). -/
theorem State.writeSetting_losesKeys (s : State) (r : Requester) (which : Setting) (v : Word) :
    s.LosesKeys (s.writeSetting r which v) := by
  cases which with
  | requesterQuota =>
    simp only [State.writeSetting, State.quotaWrite, State.settingWrite]
    split
    · next inRange =>
      refine ⟨fun i => .inr rfl, .inr ?_⟩
      simp at inRange ⊢
      omega
    · exact .of_same rfl rfl
  | holdLimit | writeMask | warmUp =>
    simp only [State.writeSetting, State.holdLimitWrite, State.writeMaskWrite, State.warmUpWrite, State.settingWrite]
    split <;> exact .of_same rfl rfl
  | autoPark =>
    simp only [State.writeSetting, State.autoParkWrite, State.settingWrite]
    split
    · split <;> exact .of_same rfl rfl
    · exact .of_same rfl rfl

theorem State.configWrite_losesKeys (s : State) (r : Requester) (field : ConfigField) (v : Word) :
    s.LosesKeys (s.configWrite r field v) := by
  unfold State.configWrite
  split
  · split <;> exact .of_same rfl rfl
  · exact .of_same rfl rfl

theorem State.consumerWrite_losesKeys (s : State) (r : Requester) (v : Word) : s.LosesKeys (s.consumerWrite r v) := by
  simp only [State.consumerWrite]
  split <;> exact .of_same rfl rfl

theorem State.writeWord_losesKeys (s : State) (r : Requester) (word : ApertureWord) (v : Word) :
    s.LosesKeys (s.writeWord r word v) := by
  cases word with
  | setting which => exact s.writeSetting_losesKeys r which v
  | command => exact s.commandWrite_losesKeys r _ _
  | config field => exact s.configWrite_losesKeys r field v
  | consumer => exact s.consumerWrite_losesKeys r v
  | _ => exact .of_same rfl rfl

theorem State.apertureGate_losesKeys (s : State) (r : Requester) (f : State → State) (effect : s.LosesKeys (f s)) :
    s.LosesKeys (s.apertureGate r f) :=
  gate_cases (P := s.LosesKeys) (fun _ _ lost => lost.trans (.of_same rfl rfl)) (.refl s) effect

theorem State.apertureRequest_losesKeys (s : State) (q : TrunkRequest) : s.LosesKeys (s.apertureRequest q) := by
  unfold State.apertureRequest
  split
  · unfold State.apertureAccess
    split
    · exact .of_same rfl rfl
    · exact s.apertureGate_losesKeys _ _ (s.writeWord_losesKeys ..)
    · exact .of_same rfl rfl
  · exact .of_same rfl rfl

/-! ### Every command -/

/-- 08 R138: a request adds a live entry only at an admission, of a key no live entry has and below the quota. -/
theorem State.RequestStep.tableStep {s t : State} {q : TrunkRequest} (change : s.RequestStep q t) : s.TableStep t := by
  cases change with
  | kept slots reclaim mgmt => exact .loses (.of_same slots (by rw [mgmt]))
  | delivered i e slot key slots reclaim mgmt => exact .loses (.of_free i slots (by rw [mgmt]))
  | late k r found key slots records mgmt => exact .loses (.of_same slots (by rw [mgmt]))
  | admitted i route free fresh below slots reclaim mgmt =>
    refine .admits i q.key (by rw [State.liveKey_eq, free]; rfl) fresh below (fun j => ?_) (by rw [mgmt])
    rw [State.liveKey_eq, slots, slots_set_get]
    split <;> rfl

theorem State.present_tableStep (s : State) (q : TrunkRequest) : s.TableStep (s.present q) := by
  by_cases outside : s.inAperture q.address = false
  · exact (s.present_requestStep q outside).tableStep
  · refine .loses ?_
    unfold State.present
    split
    · exact .of_same rfl rfl
    · split
      · exact .of_same rfl rfl
      · rw [if_pos (by simpa using outside)]
        exact s.apertureRequest_losesKeys q

/-- A row that has its effect on a condition and else changes nothing. -/
theorem State.losesKeys_ite {s u : State} {c : Prop} [Decidable c] (effect : s.LosesKeys u) :
    ∃ t : State, (if c then .next u else .next s : Host.Outcome State Fault Refusal) = .next t ∧ s.LosesKeys t := by
  split
  · exact ⟨u, rfl, effect⟩
  · exact ⟨s, rfl, .refl s⟩

/-- A row that an aperture write carries. -/
theorem State.losesKeys_gate (s : State) (r : Requester) (f : State → State) (effect : s.LosesKeys (f s)) :
    ∃ t : State, (.next (s.apertureGate r f) : Host.Outcome State Fault Refusal) = .next t ∧ s.LosesKeys t :=
  ⟨_, rfl, s.apertureGate_losesKeys r f effect⟩

/-- 07 R124: the notice engine's rows leave the slots and the settings. -/
theorem execRecordWrite_losesKeys (s : State) : ∃ t : State, execRecordWrite s = .next t ∧ s.LosesKeys t := by
  unfold execRecordWrite
  split
  · exact State.losesKeys_ite (.of_same rfl rfl)
  · exact ⟨s, rfl, .refl s⟩

theorem execAbandonedWriteAnswer_losesKeys (answer : WriteAnswer) (s : State) :
    ∃ t : State, execAbandonedWriteAnswer answer s = .next t ∧ s.LosesKeys t := by
  unfold execAbandonedWriteAnswer
  split
  · split
    · next restarted _ _ =>
      refine ⟨_, rfl, ?_⟩
      unfold State.abandonedDone
      split
      · exact .of_same rfl rfl
      · split
        · exact .of_same rfl rfl
        · exact .of_same (by simp) (by simp)
      · split <;> exact .of_same rfl rfl
    · exact ⟨_, rfl, .of_same rfl rfl⟩
  · exact ⟨s, rfl, .refl s⟩

theorem execApertureAccessRefused_losesKeys (q : TrunkRequest) (s : State) :
    ∃ t : State, execApertureAccessRefused q s = .next t ∧ s.LosesKeys t := by
  unfold execApertureAccessRefused
  split
  · exact ⟨_, rfl, .of_same rfl rfl⟩
  · split <;> exact ⟨_, rfl, .of_same rfl rfl⟩

/-- 09 R160: no entry is left, and the quota is 2. -/
theorem execHardReset_losesKeys (cause : HardResetCause) (s : State) :
    ∃ t : State, execHardReset cause s = .next t ∧ s.LosesKeys t := by
  refine ⟨_, rfl, fun i => .inl ?_, .inr (show Config.resetQuota.toNat ≤ 4 by decide)⟩
  rw [State.liveKey_eq, noSlots_get]; rfl

/-- The commands that are no request. -/
theorem exec_losesKeys (c : Instr) (s : State) (request : ∀ q, c ≠ .trunkRequest q)
    (write : ∀ r offset v, c ≠ .apertureWrite r offset v) : ∃ t : State, exec c s = .next t ∧ s.LosesKeys t := by
  cases c with
  | trunkRequest q => exact absurd rfl (request q)
  | apertureWrite r offset v => exact absurd rfl (write r offset v)
  | apertureAccessRefused q => exact execApertureAccessRefused_losesKeys q s
  | takeHead => exact execTakeHead_losesKeys s
  | branchAck data => exact execBranchAck_losesKeys data s
  | branchErr => exact ⟨_, rfl, s.endItem_losesKeys _⟩
  | handshakeLimitExpiry => exact State.losesKeys_ite s.expireHandshake_losesKeys
  | holdExpiry i => exact State.losesKeys_ite (s.expireHold_losesKeys i)
  | warmUpExpiry => exact State.losesKeys_ite (.of_same (by simp) (by simp))
  | idleTimerExpiry => exact State.losesKeys_ite (.of_same rfl rfl)
  | recordWrite => exact execRecordWrite_losesKeys s
  | recordWriteDone => exact State.losesKeys_ite (.of_same (by simp) (by simp))
  | recordWriteWait | signalWriteWait => exact State.losesKeys_ite (.of_same (by simp) (by simp))
  | recordWriteFault | signalWriteDone | signalWriteFault => exact State.losesKeys_ite (.of_same rfl rfl)
  | abandonedWriteAnswer answer => exact execAbandonedWriteAnswer_losesKeys answer s
  | commit r => exact s.losesKeys_gate r _ (s.takeCommand_losesKeys r 0 .commit)
  | revert r => exact s.losesKeys_gate r _ (s.takeCommand_losesKeys r 0 .revert)
  | unfence r argument => exact s.losesKeys_gate r _ (s.takeCommand_losesKeys r argument .unfence)
  | flush r => exact s.losesKeys_gate r _ (s.takeCommand_losesKeys r 0 .flush)
  | reclaimPop r => exact s.losesKeys_gate r _ (s.takeCommand_losesKeys r 0 .reclaimPop)
  | reclaimClear r => exact s.losesKeys_gate r _ (s.takeCommand_losesKeys r 0 .reclaimClear)
  | noticeStart r => exact s.losesKeys_gate r _ (s.takeCommand_losesKeys r 0 .noticeStart)
  | noticeStop r => exact s.losesKeys_gate r _ (s.takeCommand_losesKeys r 0 .noticeStop)
  | park r => exact s.losesKeys_gate r _ (s.takeCommand_losesKeys r 0 .park)
  | wake r => exact s.losesKeys_gate r _ (s.takeCommand_losesKeys r 0 .wake)
  | branchAbort r => exact s.losesKeys_gate r _ (s.takeCommand_losesKeys r 0 .branchAbort)
  | timeSet r => exact s.losesKeys_gate r _ (s.takeCommand_losesKeys r 0 .timeSet)
  | bridgeReset r => exact s.losesKeys_gate r _ (s.takeCommand_losesKeys r 0 .bridgeReset)
  | unknownCommand r code => exact s.losesKeys_gate r _ (s.commandWrite_losesKeys r code 0)
  | requesterQuotaWrite r v => exact s.losesKeys_gate r _ (s.writeSetting_losesKeys r .requesterQuota v)
  | holdLimitWrite r v => exact s.losesKeys_gate r _ (s.writeSetting_losesKeys r .holdLimit v)
  | managementWriteMaskWrite r v => exact s.losesKeys_gate r _ (s.writeSetting_losesKeys r .writeMask v)
  | warmUpWrite r v => exact s.losesKeys_gate r _ (s.writeSetting_losesKeys r .warmUp v)
  | autoParkIntervalWrite r v => exact s.losesKeys_gate r _ (s.writeSetting_losesKeys r .autoPark v)
  | noticeConfigurationWrite r field v => exact s.losesKeys_gate r _ (s.configWrite_losesKeys r field v)
  | consumerCounterWrite r v => exact s.losesKeys_gate r _ (s.consumerWrite_losesKeys r v)
  | hardReset cause => exact execHardReset_losesKeys cause s
  | hardResetRelease strap => exact State.losesKeys_ite (.of_same rfl rfl)

/-- Whatever the command, the keys of the live entries change in one of the ways of `State.TableStep`. -/
theorem exec_tableStep (c : Instr) (s : State) : ∃ t : State, exec c s = .next t ∧ s.TableStep t := by
  by_cases request : ∃ q, exec c s = .next (s.present q)
  · obtain ⟨q, run⟩ := request
    exact ⟨_, run, s.present_tableStep q⟩
  · obtain ⟨t, run, lost⟩ := exec_losesKeys c s (fun q same => request ⟨q, by rw [same]; rfl⟩)
      (fun r offset v same => request ⟨s.apertureWriteRequest r offset v, by rw [same]; rfl⟩)
    exact ⟨t, run, .loses lost⟩

/-- Settles O5: no way the keys can change gives two live entries one key. -/
theorem stepKeepsUniqueLiveKeys : Obligations.StepKeepsUniqueLiveKeys := by
  intro s t unique step
  refine step_keeps State.UniqueLiveKeys (fun _ _ => id) (fun c s t unique run => ?_)
    (fun s unique => (State.TableStep.loses (s.elapse_losesKeys 1)).uniqueLiveKeys unique) unique step
  obtain ⟨u, took, change⟩ := exec_tableStep c s
  obtain rfl : u = t := by rw [took] at run; injection run
  exact change.uniqueLiveKeys unique

/-- Settles O6: an admission is made below the quota. -/
theorem stepKeepsQuota : Obligations.StepKeepsQuota := by
  intro s t within step
  refine step_keeps State.WithinQuota (fun _ _ => id) (fun c s t within run => ?_)
    (fun s within => (State.TableStep.loses (s.elapse_losesKeys 1)).withinQuota within) within step
  obtain ⟨u, took, change⟩ := exec_tableStep c s
  obtain rfl : u = t := by rw [took] at run; injection run
  exact change.withinQuota within

end Sys2Proof.Machine

/-! A request answered from a live entry with its key, and the comparison of a write repeat's data. -/

namespace Sys2Proof.Machine

/-! ### The compared bytes -/

theorem byteOf_getLsbD (b : Bool) (n : Nat) : (byteOf b).getLsbD n = (b && decide (n < 8)) := by
  cases b with
  | false => simp [byteOf]
  | true => exact BitVec.getLsbD_allOnes

/-- 00 0.7: bit n of the bytes a mask selects is mask bit n / 8. -/
theorem laneBytes_getLsbD (mask : Lanes) (n : Nat) : (laneBytes mask).getLsbD n = mask.getLsbD (n / 8) := by
  simp only [laneBytes, BitVec.getLsbD_append, byteOf_getLsbD]
  split
  · next h => rw [show n / 8 = 0 by omega]; simp [h]
  · split
    · next h => rw [show n / 8 = 1 by omega]; simp [h]
    · split
      · next h => rw [show n / 8 = 2 by omega]; simp [h]
      · by_cases inside : n < 32
        · rw [show n / 8 = 3 by omega]; simp; omega
        · rw [mask.getLsbD_of_ge (n / 8) (by omega)]; simp; omega

/-- 02 R28: two words differ in a selected byte. -/
theorem compared_ne_zero_iff (mask : Lanes) (a b : Word) :
    (a ^^^ b) &&& laneBytes mask ≠ 0 ↔
      ∃ j, j < 4 ∧ mask.getLsbD j = true ∧ b.extractLsb' (8 * j) 8 ≠ a.extractLsb' (8 * j) 8 := by
  constructor
  · intro differ
    by_contra same
    push Not at same
    refine differ (BitVec.eq_of_getLsbD_eq fun n inside => ?_)
    rw [BitVec.getLsbD_and, BitVec.getLsbD_xor, laneBytes_getLsbD]
    by_cases selected : mask.getLsbD (n / 8) = true
    · have bit := congrArg (·.getLsbD (n % 8)) (same (n / 8) (by omega) selected)
      simp only [BitVec.getLsbD_extractLsb', show 8 * (n / 8) + n % 8 = n by omega] at bit
      simp [show n % 8 < 8 by omega] at bit
      simp [bit]
    · simp [selected]
  · rintro ⟨j, lane, selected, differ⟩ zero
    refine differ (BitVec.eq_of_getLsbD_eq fun n inside => ?_)
    have bit := congrArg (·.getLsbD (8 * j + n)) zero
    simp only [BitVec.getLsbD_and, BitVec.getLsbD_xor, laneBytes_getLsbD, show (8 * j + n) / 8 = j by omega, selected] at bit
    have same : a.getLsbD (8 * j + n) = b.getLsbD (8 * j + n) := by simpa using bit
    simp only [BitVec.getLsbD_extractLsb', same]

/-- 02 R28: the data of a repeat differ in a compared byte. -/
def differsAt (stored repeated : Access) : Prop :=
  ∃ k j : Nat, j < 4 ∧ (repeated.masks.getD k 0).getLsbD j = true
    ∧ (repeated.data.getD k 0).extractLsb' (8 * j) 8 ≠ (stored.data.getD k 0).extractLsb' (8 * j) 8

/-- 02 R28: the comparison of write data, word by word. -/
theorem dataDiffers_iff {stored repeated : List LaneWord} (masks : stored.map (·.mask) = repeated.map (·.mask)) :
    dataDiffers stored repeated = true ↔ differsAt (.write stored) (.write repeated) := by
  induction stored generalizing repeated with
  | nil =>
    obtain rfl : repeated = [] := List.map_eq_nil_iff.mp masks.symm
    simp [dataDiffers, differsAt, Access.masks]
  | cons a stored ih =>
    cases repeated with
    | nil => simp at masks
    | cons b repeated =>
      rw [List.map_cons, List.map_cons, List.cons.injEq] at masks
      obtain ⟨mask, masks⟩ := masks
      have firstOrRest : dataDiffers (a :: stored) (b :: repeated) = true ↔
          (a.data ^^^ b.data) &&& laneBytes a.mask ≠ 0 ∨ dataDiffers stored repeated = true := by
        simp [dataDiffers]
      rw [firstOrRest, compared_ne_zero_iff a.mask a.data b.data, ih masks, mask]
      constructor
      · rintro (⟨j, here⟩ | ⟨k, j, there⟩)
        · exact ⟨0, j, here⟩
        · exact ⟨k + 1, j, there⟩
      · rintro ⟨_ | k, j, place⟩
        · exact .inl ⟨j, place⟩
        · exact .inr ⟨k, j, place⟩

/-- 02 R28: a repeat conflicts when it is a WRITE whose data differ in a compared byte. -/
theorem Entry.conflicts_iff {e : Entry} {q : TrunkRequest} (key : e.request.key = q.key) :
    e.conflicts q = true ↔ q.access.kind = .write ∧ differsAt e.request.access q.access := by
  have kind : e.request.access.kind = q.access.kind := congrArg Key.kind key
  have masks : e.request.access.masks = q.access.masks := congrArg Key.masks key
  unfold Entry.conflicts
  cases stored : e.request.access with
  | read given =>
    have read : q.access.kind = .read := by rw [← kind, stored]; rfl
    simp [read]
  | write given =>
    cases repeated : q.access with
    | read asked => rw [stored, repeated] at kind; cases kind
    | write asked =>
      rw [stored, repeated] at masks
      simpa [Access.kind] using dataDiffers_iff masks

/-! ### The answer -/

/-- 08 R138 step 3: under the law of the keys a request is answered from the live entry with its key. -/
theorem State.exec_request_live (s : State) (q : TrunkRequest) {i : Slot} {e : Entry} (unique : s.UniqueLiveKeys)
    (out : s.port.held = false) (formed : q.malformed = false) (outside : s.inAperture q.address = false)
    (slot : s.slots.get i = some e) (live : e.phase ≠ .cancelled) (key : e.request.key = q.key) :
    exec (.trunkRequest q) s = .next (s.answerEntry i e q) := by
  have found : s.liveKey i = some q.key := by
    rw [State.liveKey_eq, slot, ← key]; exact Entry.liveKey_of_live live
  rw [exec, execTrunkRequest, s.present_outside q out formed outside,
    s.matchOrPass_live q (s.matchLive_of_liveKey q i unique found) slot]

/-- Settles O28: the match finds the entry, and its phase and the comparison of data give the answer. -/
theorem requestIsAnsweredFromItsLiveEntry : Obligations.RequestIsAnsweredFromItsLiveEntry := by
  intro s q i e unique out formed outside slot live key differs
  have conflict : e.conflicts q = true ↔ differs := Entry.conflicts_iff key
  rw [s.exec_request_live q unique out formed outside slot live key, State.answerEntry]
  refine ⟨fun differ => ?_, fun same waiting => ?_, fun same result hold ready => ?_⟩
  · rw [if_pos (conflict.mpr differ)]; rfl
  · rw [if_neg (mt conflict.mp same)]
    rcases waiting with queued | active
    · simp only [queued]; rfl
    · simp only [active]; rfl
  · rw [if_neg (mt conflict.mp same)]
    simp only [ready]
    rfl

end Sys2Proof.Machine

/-! A request that reaches admission: the window it decodes to, its span, its route, and admission to the pending table. -/

namespace Sys2Proof.Machine

/-! ### The window of an address -/

theorem WindowRecord.covers_iff (r : WindowRecord) (a : Word) : r.covers a = true ↔ r.HoldsByte a.toNat := by
  simp [WindowRecord.covers, WindowRecord.holdsByte_iff, and_assoc]

/-- 01 R2, R15: with the windows apart an address decodes to the window that holds it. -/
theorem State.decodeWindow_eq (s : State) {a : Word} {w : WindowNo} (sound : s.WindowsSound)
    (inside : (s.window.active.get w).HoldsByte a.toNat) : s.decodeWindow a = some w := by
  obtain ⟨-, ⟨pairs, -⟩, -⟩ := sound
  refine (find?_finRange_eq_some _ w).mpr ⟨(WindowRecord.covers_iff _ a).mpr inside, fun v lower => ?_⟩
  rw [Bool.eq_false_iff, ne_eq, WindowRecord.covers_iff]
  exact fun other => pairs v w a.toNat lower.ne other inside

/-- 08 R139: a well-formed request stays in 32 aligned bytes. -/
theorem TrunkRequest.lastByte_lt (q : TrunkRequest) (formed : q.malformed = false) :
    TrunkRequest.lastByte q < q.address.toNat / 32 * 32 + 32 := by
  simp only [TrunkRequest.malformed, Bool.or_eq_false_iff, decide_eq_false_iff_not, bne_eq_false_iff_eq,
    beq_eq_false_iff_ne] at formed
  obtain ⟨⟨⟨⟨-, -⟩, aligned⟩, block⟩, -⟩ := formed
  simp only [TrunkRequest.lastByte]
  omega

/-- 08 R142: a well-formed request that begins in a legal window ends in it. -/
theorem WindowRecord.lastByte_le_last (r : WindowRecord) (q : TrunkRequest) (legal : r.Legal) (formed : q.malformed = false)
    (inside : r.HoldsByte q.address.toNat) : TrunkRequest.lastByte q ≤ r.last := by
  obtain ⟨⟨⟨large, -⟩, -⟩, aligned, -⟩ := legal
  obtain ⟨-, above, below⟩ := inside
  have size : 32 ∣ 2 ^ r.sizeOrder := ⟨2 ^ (r.sizeOrder - 5), by rw [← Nat.pow_add 2 5]; congr 1; omega⟩
  have base := size.trans aligned
  have last := TrunkRequest.lastByte_lt q formed
  have := Nat.two_pow_pos r.sizeOrder
  rw [WindowRecord.last]
  omega

/-! ### The way to admission -/

/-- 08 R138 steps 1 to 4. -/
theorem State.present_of_reachesDecode (s : State) (q : TrunkRequest) (reaches : s.ReachesDecode q) :
    s.present q = s.windowRequest q := by
  obtain ⟨out, formed, outside, fresh, unlogged⟩ := reaches
  rw [s.present_outside q out formed outside, s.matchOrPass_pass q ((s.matchLive_eq_none q).mpr fresh), State.reclaimOrWindow]
  split
  · next k read found =>
    obtain ⟨r, record, key⟩ := s.matchReclaim_eq_some q found
    exact absurd key (unlogged read r (List.mem_of_getElem? record))
  · rfl

/-- 08 R138 steps 5 to 9: a request that reaches admission meets it. -/
theorem State.exec_request_admission (s : State) (q : TrunkRequest) (w : WindowNo) (sound : s.WindowsSound)
    (reaches : s.ReachesAdmission q w) : exec (.trunkRequest q) s = .next (s.admission q w) := by
  obtain ⟨decode, inside, permitted, unfenced⟩ := reaches
  have ⟨_, formed, _⟩ := decode
  have span := (s.window.active.get w).lastByte_le_last q (sound.1 w inside.1) formed inside
  rw [exec, execTrunkRequest, s.present_of_reachesDecode q decode, State.windowRequest]
  simp only [s.decodeWindow_eq sound inside]
  rw [if_neg (by omega), if_neg (by simpa [WindowRecord.permits] using permitted), if_neg (by simp [unfenced])]

/-! ### The route and the effective lanes -/

/-- A field's low bits are a narrower field. -/
theorem ofNat_extractLsb'_toNat {width : Nat} (x : BitVec width) (pos : Nat) {narrow wide : Nat} (le : narrow ≤ wide) :
    BitVec.ofNat narrow (x.extractLsb' pos wide).toNat = x.extractLsb' pos narrow := by
  apply BitVec.eq_of_toNat_eq
  rw [BitVec.toNat_ofNat, BitVec.extractLsb'_toNat, BitVec.extractLsb'_toNat, Nat.mod_mod_of_dvd _ (Nat.pow_dvd_pow 2 le)]

/-- 01 R3: the branch start index. -/
theorem WindowRecord.startIndex_eq (r : WindowRecord) (a : Word) :
    r.startIndex a =
      BitVec.ofNat 24
        (r.branchBase.toNat
          + if r.laneModeBits = 1 then 2 * ((a.toNat - r.trunkBase.toNat) / 4) else (a.toNat - r.trunkBase.toNat) / 4) := by
  have halves : r.laneMode.halves * r.wordOffset a =
      if r.laneModeBits = 1 then 2 * ((a.toNat - r.trunkBase.toNat) / 4) else (a.toNat - r.trunkBase.toNat) / 4 := by
    unfold WindowRecord.laneMode WindowRecord.wordOffset WindowRecord.first
    split
    · rfl
    · exact Nat.one_mul _
  rw [WindowRecord.startIndex, halves, BitVec.ofNat_add, BitVec.ofNat_toNat, BitVec.setWidth_eq]

/-- 01 R19: the route snapshot by the fields of the record. -/
theorem State.snapshot_eq (s : State) (w : WindowNo) (a : Word) : s.snapshot w a = s.routeOf w a := by
  simp only [State.snapshot, State.routeOf, WindowRecord.startIndex_eq, WindowRecord.limit, WindowRecord.reissueCount,
    ofNat_extractLsb'_toNat _ _ (show 12 ≤ 16 by decide), ofNat_extractLsb'_toNat _ _ (show 3 ≤ 4 by decide)]
  rfl

/-- 01 R3: the lanes a mode carries. -/
theorem LaneMode.carried_getLsbD (mode : LaneMode) (j : Nat) :
    mode.carried.getLsbD j = true ↔ j < 2 ∨ (j < 4 ∧ mode = .paired) := by
  by_cases lane : j < 4
  · interval_cases j <;> cases mode <;> decide
  · rw [BitVec.getLsbD_of_ge _ _ (by omega)]
    simp; omega

/-- 01 R4: no word has an effective lane. -/
theorem noEffectiveLane_iff (mode : LaneMode) (masks : List Lanes) :
    noEffectiveLane mode masks = true ↔ ∀ m ∈ masks, ∀ j, j < 2 ∨ (j < 4 ∧ mode = .paired) → m.getLsbD j = false := by
  simp only [noEffectiveLane, List.all_eq_true, beq_iff_eq]
  refine forall₂_congr fun m _ => ?_
  have bit (j : Nat) : (effectiveLanes mode m).getLsbD j = (m.getLsbD j && mode.carried.getLsbD j) := BitVec.getLsbD_and
  constructor
  · intro empty j carried
    have same := bit j
    rw [(mode.carried_getLsbD j).mpr carried, Bool.and_true, empty] at same
    exact same.symm.trans BitVec.getLsbD_zero
  · intro clear
    refine BitVec.eq_of_getLsbD_eq fun j _ => ?_
    refine (bit j).trans (Eq.trans (Bool.and_eq_false_imp.mpr ?_) BitVec.getLsbD_zero.symm)
    intro selected
    by_contra carried
    rw [Bool.not_eq_false, LaneMode.carried_getLsbD] at carried
    simp [clear j carried] at selected

/-- 01 R3: the lane mode by its field. -/
theorem WindowRecord.laneMode_eq_paired (r : WindowRecord) : r.laneMode = .paired ↔ r.laneModeBits = 1 := by
  simp [WindowRecord.laneMode]

/-- 01 R4: no word of a request has an effective lane in a window. -/
theorem WindowRecord.noEffectiveLane_iff (r : WindowRecord) (masks : List Lanes) :
    noEffectiveLane r.laneMode masks = true ↔
      ∀ m ∈ masks, ∀ j, j < 2 ∨ (j < 4 ∧ r.laneModeBits = 1) → m.getLsbD j = false := by
  rw [Machine.noEffectiveLane_iff, r.laneMode_eq_paired]

/-! ### Admission -/

/-- 02 R32: the DONE of a request with no effective lane. -/
theorem TrunkRequest.zeroAnswer_eq (q : TrunkRequest) :
    TrunkRequest.zeroAnswer q =
      .done (match q.access with | .read masks => List.replicate masks.length 0 | .write _ => []) := by
  unfold TrunkRequest.zeroAnswer
  cases q.access with
  | read masks => simp
  | write words => rfl

/-- Settles O33: at admission with no effective lane. -/
theorem noEffectiveLaneIsAnsweredDone : Obligations.NoEffectiveLaneIsAnsweredDone := by
  intro s q w sound reaches ineffective
  have lanes := ((s.window.active.get w).noEffectiveLane_iff q.access.masks).mpr ineffective
  rw [s.exec_request_admission q w sound reaches, State.admission, if_pos lanes, TrunkRequest.zeroAnswer_eq]
  rfl

/-- 02 R30: a READ, or a WRITE to a NONPOSTED window, is for the pending table. -/
theorem State.admission_delayed (s : State) (q : TrunkRequest) (w : WindowNo)
    (lanes : noEffectiveLane (s.window.active.get w).laneMode q.access.masks = false)
    (delayed : q.access.kind = .read ∨ (s.window.active.get w).writeModeBits = 1) :
    s.admission q w = s.admitDelayed q (s.routeOf w q.address) := by
  rw [← s.snapshot_eq, State.admission, if_neg (by simp [lanes])]
  cases access : q.access with
  | read masks => rfl
  | write words =>
    have nonposted := delayed.resolve_left (by simp [access, Access.kind])
    exact if_neg (by simp [WindowRecord.posted, nonposted])

/-- 02 R30: admission to the lowest FREE slot. -/
theorem State.admissionSlot_eq_some (s : State) (r : Requester) {i : Slot} (free : s.slots.get i = none)
    (lowest : ∀ j < i, s.slots.get j ≠ none) (below : s.liveCount r < s.mgmt.quota.toNat) : s.admissionSlot r = some i := by
  rw [State.admissionSlot, if_pos below, s.freeSlot_eq_some]
  exact ⟨free, lowest⟩

/-- 02 R31: no admission at a full table or at the quota. -/
theorem State.admissionSlot_eq_none (s : State) (r : Requester)
    (full : (∀ i : Slot, s.slots.get i ≠ none) ∨ s.mgmt.quota.toNat ≤ s.liveCount r) : s.admissionSlot r = none := by
  unfold State.admissionSlot
  split
  · next below => exact (s.freeSlot_eq_none).mpr (full.resolve_right (by omega))
  · rfl

/-- Settles O31: the request meets the delayed transaction unit, with its slot or with none. -/
theorem delayedAdmission : Obligations.DelayedAdmission := by
  intro s q w sound reaches effective delayed
  have lanes : noEffectiveLane (s.window.active.get w).laneMode q.access.masks = false := by
    obtain ⟨m, mem, j, carried, selected⟩ := effective
    rw [Bool.eq_false_iff, ne_eq, WindowRecord.noEffectiveLane_iff]
    exact fun ineffective => by simp [ineffective m mem j carried] at selected
  rw [s.exec_request_admission q w sound reaches, s.admission_delayed q w lanes delayed, State.admitDelayed]
  refine ⟨fun i free lowest below => ?_, fun full => ?_⟩
  · rw [s.admissionSlot_eq_some q.requester free lowest below]
    simp only [State.enqueue_eq]
    rfl
  · rw [s.admissionSlot_eq_none q.requester full]
    rfl

end Sys2Proof.Machine

/-! The disposal of a result, the take of the head, and the ends of an item with no fence handling. -/

namespace Sys2Proof.Machine

/-! ### The disposal of a result -/

/-- 11 R168: the aux of RESULT_DISCARDED. -/
theorem auxResultDiscarded_eq (kind : Kind) (status : Status) :
    auxResultDiscarded kind status =
      BitVec.ofNat 16 (Status.code status + 16 * status.faultCode + 256 * Kind.code kind) := by
  cases status with
  | fault code => cases code <;> cases kind <;> decide
  | ok | filled => cases kind <;> decide

/-- 06 R106, R108: what the log becomes rests on the log and the time base. -/
theorem State.logWith_congr {s t : State} (reclaim : t.reclaim = s.reclaim) (mgmt : t.mgmt = s.mgmt)
    (reads : List (Entry × List Word)) : t.logWith reads = s.logWith reads := by
  simp only [State.logWith, State.room, State.recordMade, reclaim, mgmt]

section
variable {s t : State} {e : Entry} {r : Result}

/-- 02 R38: a SENSITIVE OK read goes to the log while it has room. -/
theorem State.dispose_room (window : t.window = s.window) (reclaim : t.reclaim = s.reclaim) (mgmt : t.mgmt = s.mgmt)
    (give : e.reclaimable r = true) (room : s.reclaim.records.length < 8) :
    t.dispose e r =
      { t with reclaim := s.logWith [(e, r.data)] }.notified .readReclaimed (some e.route.window) (some e.request.requester)
        s.window.epoch e.request.address s.reclaim.nextSequence := by
  rw [← State.logWith_congr reclaim mgmt, ← window, ← reclaim]
  rw [← reclaim] at room
  have hasRoom : t.reclaim.hasRoom = true := decide_eq_true room
  rw [State.dispose, if_pos give, if_pos hasRoom, t.handOver_room e r.data room, State.generate_eq_notified]
  rfl

/-- 06 R108: a SENSITIVE OK read is lost to a full log. -/
theorem State.dispose_full (window : t.window = s.window) (reclaim : t.reclaim = s.reclaim) (give : e.reclaimable r = true)
    (full : 8 ≤ s.reclaim.records.length) :
    t.dispose e r =
      t.notified .reclaimOverflow (some e.route.window) (some e.request.requester) s.window.epoch e.request.address
        (BitVec.ofNat 16 e.request.access.count) := by
  have noRoom : ¬t.reclaim.hasRoom = true := by
    rw [ReclaimLog.hasRoom, decide_eq_true_eq, reclaim]; exact not_lt.mpr full
  rw [State.dispose, if_pos give, if_neg noRoom, State.generate_eq_notified, ← window]
  rfl

/-- 02 R37: any other result is discarded. -/
theorem State.dispose_discard (window : t.window = s.window) (keep : ¬e.reclaimable r = true) :
    t.dispose e r =
      t.notified .resultDiscarded (some e.route.window) (some e.request.requester) s.window.epoch e.request.address
        (BitVec.ofNat 16 (Status.code r.status + 16 * r.status.faultCode + 256 * Kind.code e.request.access.kind)) := by
  rw [State.dispose, if_neg keep, State.generate_eq_notified, ← auxResultDiscarded_eq, ← window]
  rfl

end

/-- Settles O42: by the disposal of the entry freed. -/
theorem holdExpiryDisposesOfTheResult : Obligations.HoldExpiryDisposesOfTheResult := by
  intro s i e result slot phase freed told keeps status
  have due : s.holdRemaining i = some 0 := by
    obtain ⟨request, route, p⟩ := e
    obtain rfl : p = .ready result (some 0) := phase
    simp [State.holdRemaining, slot]
  have run : exec (.holdExpiry i) s = .next (freed.dispose e result) := by
    rw [exec, execHoldExpiry, if_pos due, State.expireHold]
    simp only [slot, phase]
    rfl
  have give : e.reclaimable result = true ↔ keeps := e.reclaimable_iff result
  have code : Status.code result.status + 16 * result.status.faultCode = status := by
    simp only [status]; cases result.status <;> rfl
  rw [run]
  refine ⟨fun keep room => ?_, fun keep full => ?_, fun discard => ?_⟩
  · rw [State.dispose_room (s := s) (t := freed) rfl rfl rfl (give.mpr keep) room]
  · rw [State.dispose_full (s := s) (t := freed) rfl rfl (give.mpr keep) full]
  · rw [State.dispose_discard (s := s) (t := freed) rfl (mt give.mp discard), code]

/-! ### The take of the head -/

/-- 04 R69: the head that waits can be taken. -/
theorem State.exec_takeHead (s : State) {ref : Ref} {rest : List Ref} {it : Item}
    (power : s.branch.power = .running ∨ s.branch.power = .parking) (idle : s.branch.active = none)
    (order : s.branch.issueOrder = ref :: rest) (waiting : s.waitingItem ref = some it) :
    exec .takeHead s =
      .next { s.markTaken ref with branch.issueOrder := rest, branch.active := some (it.progress ref) } := by
  have runs : (s.branch.power.runs && s.branch.active.isNone) = true := by
    rcases power with power | power <;> simp [power, idle, PowerState.runs]
  have head : s.takeable = some (ref, it) := by simp [State.takeable, order, runs, waiting]
  simp only [exec, execTakeHead, head, order, List.tail_cons]

/-- 04 R69: nothing is taken in PARKED or WAKING, with an item ACTIVE, or from an empty list. -/
theorem State.takeable_eq_none (s : State)
    (quiet : s.branch.power = .parked ∨ s.branch.power = .waking ∨ s.branch.active ≠ none ∨ s.branch.issueOrder = []) :
    s.takeable = none := by
  unfold State.takeable
  split
  · rfl
  · next order =>
    rw [if_neg]
    rcases quiet with power | power | active | empty
    · simp [power, PowerState.runs]
    · simp [power, PowerState.runs]
    · simp [active]
    · simp [empty] at order

/-- Settles O34: the head waits as an entry or as a posted write. -/
theorem takeHeadMakesTheHeadActive : Obligations.TakeHeadMakesTheHeadActive := by
  refine fun s => ⟨fun power idle => ⟨fun i rest e order slot queued => ?_, fun rest p others order posts => ?_⟩,
    fun quiet => ?_⟩
  · have waiting : s.waitingItem (.entry i) = some e.item := by
      simp [State.waitingItem, slot, Entry.queued, queued]
    rw [s.exec_takeHead power idle order waiting]
    simp only [State.markTaken, slot, Option.map_some, Item.progress, List.map_const', Access.count]
    rfl
  · have waiting : s.waitingItem .posted = some p.item := by simp [State.waitingItem, posts]
    rw [s.exec_takeHead power idle order waiting]
    simp only [State.markTaken, Item.progress, List.map_const', PostedWrite.item, Access.masks, List.length_map]
    rfl
  · simp only [exec, execTakeHead, s.takeable_eq_none quiet]

/-! ### The ends of an item with no fence handling -/

section
variable {s : State} {p : Progress} {it : Item} {ending : Ending}

/-- 04 R79: an end leaves no item ACTIVE, and the engine becomes idle when its list is empty. -/
theorem State.endItem_eq_afterEnd (active : s.branch.active = some p) (item : s.activeItem p.item = some it) :
    s.endItem ending =
      State.afterEnd
        (((State.ownerTakes { s with branch.active := none } p.item
            (endResult ending it.request.access it.route.fill p.assembly)).engineReport ending it p
              ((p.outstanding.map (·.index)).getD 0)).disposeCancelled (s.entryOf p.item)
          (endResult ending it.request.access it.route.fill p.assembly)) := by
  rw [s.endItem_eq ending active item, State.settle_of_active _ _ (by rw [active]; rfl)]
  rw [disposeCancelled_branch, engineReport_active, ownerTakes_branch]

/-- 04 R79: the item an entry's reference names. -/
theorem State.activeItem_entry {i : Slot} {e : Entry} (ref : p.item = .entry i) (slot : s.slots.get i = some e) :
    s.activeItem p.item = some e.item := by
  rw [ref]; simp [State.activeItem, slot]

/-- 02 R35: the end of an ACTIVE entry's item. -/
theorem State.endItem_ready {i : Slot} {e : Entry} {r : Result} (active : s.branch.active = some p) (ref : p.item = .entry i)
    (slot : s.slots.get i = some e) (phase : e.phase = .active)
    (result : endResult ending e.request.access e.route.fill p.assembly = r) :
    s.endItem ending =
      State.afterEnd
        ((s.entryReady i e r.status r.data).engineReport ending e.item p ((p.outstanding.map (·.index)).getD 0)) := by
  have owned : ∀ (j : Slot) (d : Entry), p.item = .entry j → s.slots.get j = some d → d.phase ≠ .cancelled := by
    intro j d same other
    obtain rfl : i = j := Ref.entry.inj (ref.symm.trans same)
    obtain rfl : e = d := Option.some.inj (slot.symm.trans other)
    simp [phase]
  rw [State.endItem_eq_afterEnd active (State.activeItem_entry ref slot), s.disposeCancelled_keep _ _ _ owned, Entry.item, result,
    ref, State.ownerTakes]
  simp only [slot, phase, reduceCtorEq, if_false]
  rfl

/-- 02 R42: the end of a CANCELLED entry's item. -/
theorem State.endItem_cancelled {i : Slot} {e : Entry} {r : Result} (active : s.branch.active = some p) (ref : p.item = .entry i)
    (slot : s.slots.get i = some e) (phase : e.phase = .cancelled)
    (result : endResult ending e.request.access e.route.fill p.assembly = r) :
    s.endItem ending =
      State.afterEnd
        (((s.slotFreed i).engineReport ending e.item p ((p.outstanding.map (·.index)).getD 0)).dispose e r) := by
  rw [State.endItem_eq_afterEnd active (State.activeItem_entry ref slot), s.disposeCancelled_dispose _ _ ref slot phase,
    Entry.item, result, ref, State.ownerTakes]
  simp only [slot, phase, if_true]
  rfl

/-- 03 R56: the end of a posted write. -/
theorem State.endItem_posted (active : s.branch.active = some p) (ref : p.item = .posted)
    (item : s.activeItem p.item = some it) :
    s.endItem ending =
      State.afterEnd (s.postLeft.engineReport ending it p ((p.outstanding.map (·.index)).getD 0)) := by
  rw [State.endItem_eq_afterEnd active item, ref]
  rfl

/-! ### The ACK of the last cycle -/

/-- 04 R76, R79: the ACK of the last cycle ends the item. -/
theorem State.exec_lastAck {c : Cycle} (data : HalfWord) (onBranch : s.OnBranch p.item p c)
    (last : p.cyclesDone + 1 = p.cycles.length) :
    exec (.branchAck data) s =
      .next (State.endItem { s with branch.active := some (p.acked c data (s.activeLimit p)) } .ok) := by
  obtain ⟨active, -, outstanding⟩ := onBranch
  simp only [exec, execBranchAck, active, Progress.outstanding, outstanding, last, lt_self_iff_false, if_false]

/-- 02 R35: the result of an item that ends OK. -/
theorem endResult_ok (access : Access) (fill : Word) (assembly : List Word) :
    endResult .ok access fill assembly =
      { status := .ok, data := if access.kind = .read then assembly else [] } := by
  cases access <;> rfl

/-- 05 R91: an item that ends OK after a reissue is told. -/
theorem State.engineReport_ok (s : State) (it : Item) (p : Progress) (index : BranchIndex) :
    s.engineReport .ok it p index =
      if p.reissuesUsed = 0 then s
      else
        s.notified .reissueRecovered (some it.route.window) (some it.request.requester) it.route.epoch it.request.address
          (BitVec.ofNat 16 p.reissuesUsed) := by
  simp only [State.engineReport, State.generate_eq_notified]
  rfl

/-- 04 R79: every end but FENCE leaves the windows, the log and the time base for the disposal. -/
theorem State.engineReport_frame (s : State) (ending : Ending) (it : Item) (p : Progress) (index : BranchIndex)
    (unfenced : ending ≠ .fenced) :
    (s.engineReport ending it p index).window = s.window ∧ (s.engineReport ending it p index).reclaim = s.reclaim
      ∧ (s.engineReport ending it p index).mgmt = s.mgmt := by
  cases ending with
  | ok => simp only [State.engineReport]; split <;> exact ⟨rfl, rfl, rfl⟩
  | device | skipped => exact ⟨rfl, rfl, rfl⟩
  | fenced => exact absurd rfl unfenced

end

/-- Settles O37: by the end of the item with its last half-word assembled. -/
theorem ackOfTheLastCycleEndsTheItemOk : Obligations.AckOfTheLastCycleEndsTheItemOk := by
  intro s data p c it onBranch item last recovered words result
  let p' := p.acked c data (s.activeLimit p)
  let acked : State := { s with branch.active := some p' }
  have run : exec (.branchAck data) s = .next (acked.endItem .ok) := s.exec_lastAck data onBranch last
  have assembly : p'.assembly = words := by
    simp only [p', Progress.acked, Progress.assembled, words]
    cases c.kind <;> rfl
  have report (t : State) (index : BranchIndex) : t.engineReport .ok it p' index = recovered t :=
    t.engineReport_ok it p' index
  have named (i : Slot) (e : Entry) (ref : p.item = .entry i) (slot : s.slots.get i = some e) : it = e.item :=
    Option.some.inj (item.symm.trans (State.activeItem_entry ref slot))
  rw [run]
  refine ⟨fun i e ref slot phase => ?ready, fun i e ref slot phase => ?cancelled, fun ref => ?posted⟩
  case ready =>
    obtain rfl := named i e ref slot
    rw [State.endItem_ready (s := acked) (p := p') rfl ref slot phase (endResult_ok ..), assembly, report]
    rfl
  case cancelled =>
    obtain rfl := named i e ref slot
    obtain ⟨window, reclaim, mgmt⟩ : (recovered (s.slotFreed i)).window = s.window
        ∧ (recovered (s.slotFreed i)).reclaim = s.reclaim ∧ (recovered (s.slotFreed i)).mgmt = s.mgmt := by
      rw [← report _ 0]; exact State.engineReport_frame _ _ _ _ _ (by simp)
    have freed : acked.endItem .ok = State.afterEnd ((recovered (s.slotFreed i)).dispose e
        { status := .ok, data := if e.request.access.kind = .read then words else [] }) := by
      rw [← assembly, State.endItem_cancelled (s := acked) (p := p') rfl ref slot phase (endResult_ok ..), report]
      rfl
    rw [freed]
    refine ⟨fun read sensitive room => ?_, fun read sensitive full => ?_, fun discard => ?_⟩
    · rw [if_pos read,
        State.dispose_room window reclaim mgmt ((e.reclaimable_iff _).mpr ⟨read, sensitive, rfl⟩) room]
    · rw [State.dispose_full window reclaim ((e.reclaimable_iff _).mpr ⟨read, sensitive, rfl⟩) full]
    · have keep (r : Result) : ¬e.reclaimable r = true := by
        rw [e.reclaimable_iff]
        rintro ⟨read, sensitive, -⟩
        rcases discard with write | plain
        · simp [read] at write
        · simp [sensitive] at plain
      rw [State.dispose_discard window (keep _)]
      rfl
  case posted =>
    rw [State.endItem_posted (s := acked) (p := p') rfl ref item, report]
    rfl

/-! ### SKIP and BRANCH_ABORT -/

/-- 11 R168: the aux of CYCLE_SKIPPED. -/
theorem auxCycleSkipped_eq {done reissues : Nat} (aborted : Bool) (few : done < 16) (allowed : reissues < 8) :
    auxCycleSkipped done reissues aborted = BitVec.ofNat 16 (done + 16 * reissues + 32768 * aborted.toNat) := by
  apply BitVec.eq_of_toNat_eq
  have low := bits_toNat 0 4 done (by omega)
  have middle := or_bits_toNat (bits 0 4 done) 4 3 reissues (by omega) (by omega)
  have high := or_bits_toNat (bits 0 4 done ||| bits 4 3 reissues) 15 1 aborted.toNat (by omega) (by omega)
  rw [auxCycleSkipped, auxOf, BitVec.toNat_setWidth, flagBit, high, middle, low, BitVec.toNat_ofNat]
  cases aborted <;> simp <;> omega

/-- 02 R35: the result of an item that is skipped. -/
theorem endResult_skipped (aborted : Bool) (access : Access) (fill : Word) (assembly : List Word) :
    endResult (.skipped aborted) access fill assembly =
      if access.kind = .read then { status := .filled, data := List.replicate access.count fill } else timeoutResult := by
  cases access with
  | read masks => simp [endResult, Access.kind, Access.count, Access.masks]
  | write words => rfl

section
variable {s : State} {p : Progress} {c : Cycle} {it : Item}

/-- 05 R90: the last allowed attempt under SKIP. -/
theorem State.exec_lastExpiry_skip (active : s.branch.active = some p) (item : s.activeItem p.item = some it)
    (timer : p.timer = some 0) (spent : p.reissuesUsed = it.route.reissueCount.toNat) (final : it.route.finalAction = .skip) :
    exec .handshakeLimitExpiry s = .next (s.endItem (.skipped false)) := by
  have due : s.handshakeRemaining = some 0 := by rw [State.handshakeRemaining, active]; exact timer
  rw [exec, execHandshakeLimitExpiry, if_pos due]
  simp only [State.expireHandshake, active, item, spent, lt_self_iff_false, if_false, final]

/-- 05 R100: BRANCH_ABORT with an item ACTIVE. -/
theorem State.exec_branchAbort (r : Requester) (accepted : s.accepts r) (active : s.branch.active = some p) :
    exec (.branchAbort r) s =
      .next ((s.endItem (.skipped true)).reported (.command .branchAbort) r .done .none 0) := by
  rw [exec, execBranchAbort, s.apertureGate_accepted r _ accepted, State.branchAbort, if_pos (by simp [active]),
    State.resultDone_answer]

/-- 05 R93, R94: CYCLE_SKIPPED. -/
theorem State.engineReport_skipped (s : State) (aborted : Bool) {index : BranchIndex} (few : p.cyclesDone < 16)
    (allowed : p.reissuesUsed < 8) :
    s.engineReport (.skipped aborted) it p index =
      s.notified .cycleSkipped (some it.route.window) (some it.request.requester) it.route.epoch (index.setWidth 32)
        (BitVec.ofNat 16 (p.cyclesDone + 16 * p.reissuesUsed + 32768 * aborted.toNat)) := by
  rw [State.engineReport, State.generate_eq_notified, ← auxCycleSkipped_eq aborted few allowed]
  rfl

end

/-- 05 R100: BRANCH_ABORT with no item ACTIVE. -/
theorem State.exec_branchAbort_idle (s : State) (r : Requester) (accepted : s.accepts r) (idle : s.branch.active = none) :
    exec (.branchAbort r) s = .next (s.reported (.command .branchAbort) r .refused .idle 0) := by
  rw [exec, execBranchAbort, s.apertureGate_accepted r _ accepted, State.branchAbort, if_neg (by simp [idle]),
    State.resultRefused_answer]

/-- Settles O39: SKIP's expiry and BRANCH_ABORT end the item alike, but for the aborted flag and the result reported. -/
theorem skipAndAbortEndTheItem : Obligations.SkipAndAbortEndTheItem := by
  refine ⟨?item, State.exec_branchAbort_idle⟩
  intro s p c it r onBranch item few allowed skipped expires both
  obtain ⟨active, -, outstanding⟩ := onBranch
  have index : (p.outstanding.map (·.index)).getD 0 = c.index := by rw [Progress.outstanding, outstanding]; rfl
  have report (aborted : Bool) (t : State) : t.engineReport (.skipped aborted) it p c.index = skipped aborted t :=
    t.engineReport_skipped aborted few allowed
  have ends (after : Bool → State) (each : ∀ aborted, s.endItem (.skipped aborted) = after aborted) : both after := by
    refine ⟨fun ⟨timer, spent, final⟩ => ?_, fun accepted => ?_⟩
    · rw [State.exec_lastExpiry_skip active item timer spent final, each]
    · rw [State.exec_branchAbort r accepted active, each]
  clear_value both
  refine ⟨fun i e ref slot => ?entry, fun ref => ?posted⟩
  case posted =>
    refine ends _ fun aborted => ?_
    rw [State.endItem_posted active ref item, index, report]
  case entry =>
    obtain rfl : it = e.item := Option.some.inj (item.symm.trans (State.activeItem_entry ref slot))
    have result (aborted : Bool) := endResult_skipped aborted e.request.access e.route.fill p.assembly
    refine ⟨fun phase read => ?_, fun phase write => ?_, fun phase => ?_⟩ <;> refine ends _ fun aborted => ?_
    · rw [State.endItem_ready active ref slot phase ((result aborted).trans (if_pos read)), index, report]
    · rw [State.endItem_ready active ref slot phase ((result aborted).trans (if_neg (by simp [write]))), index, report]
      rfl
    · have keep : ¬e.reclaimable (endResult (.skipped aborted) e.request.access e.route.fill p.assembly) = true := by
        rw [e.reclaimable_iff, result]
        split <;> simp [timeoutResult]
      rw [State.endItem_cancelled active ref slot phase rfl, index, report,
        State.dispose_discard (s := s) (t := skipped aborted (s.slotFreed i)) rfl keep, result]
      cases e.request.access <;> rfl

end Sys2Proof.Machine

/-! The passing of time, the events of the bridge's own, and an expiry row whose timer has time left. -/

namespace Sys2Proof.Machine

/-! ### The passing of time -/

/-- 09 R156: time out of hard reset. -/
theorem State.elapse_out (s : State) (n : Nat) (out : s.port.held = false) :
    s.elapse n =
      { s with
        mgmt.timeBase := s.mgmt.timeBase + BitVec.ofNat 32 n
        slots := (s.elapse n).slots
        branch :=
          { s.branch with
            active := s.branch.active.map fun p => { p with timer := p.timer.map (· - n) }
            warmUpTimer := s.branch.warmUpTimer.map (· - n)
            idleTimer := s.branch.idleTimer.map (· - n) } } := by
  rw [State.elapse, if_neg (by simp [out])]

/-- 02 R35: the slots after time out of hard reset. -/
theorem State.elapse_get (s : State) (n : Nat) (out : s.port.held = false) (i : Slot) :
    (s.elapse n).slots.get i = (s.slots.get i).map (Entry.elapse n) := by
  obtain ⟨-, -, -, -, slots⟩ := s.elapse_running n out
  exact slots i

/-- 02 R35: a timer's two falls are one. -/
theorem map_sub_succ (timer : Option Nat) (n : Nat) : timer.map (· - (n + 1)) = (timer.map (· - n)).map (· - 1) := by
  cases timer <;> simp [Nat.sub_sub]

theorem Entry.elapse_succ (e : Entry) (n : Nat) : e.elapse (n + 1) = (e.elapse n).elapse 1 := by
  obtain ⟨request, route, phase⟩ := e
  cases phase with
  | ready r hold => simp [Entry.elapse, map_sub_succ hold n]
  | queued | active | cancelled => rfl

/-- 09 R156: `n + 1` microseconds do what `n` and one more do. -/
theorem State.elapse_succ (s : State) (n : Nat) : s.elapse (n + 1) = (s.elapse n).elapse 1 := by
  cases held : s.port.held with
  | true => rw [s.elapse_held _ held, s.elapse_held _ held, s.elapse_held _ held]
  | false =>
    have slots : (s.elapse (n + 1)).slots = ((s.elapse n).elapse 1).slots := by
      apply slots_ext
      intro i
      rw [s.elapse_get (n + 1) held, (s.elapse n).elapse_get 1 (by simp [held]), s.elapse_get n held, Option.map_map]
      exact congrArg (Option.map · _) (funext fun e => e.elapse_succ n)
    have active : (s.branch.active.map fun p => { p with timer := p.timer.map (· - (n + 1)) })
        = (s.branch.active.map fun p => { p with timer := p.timer.map (· - n) }).map
            fun p => { p with timer := p.timer.map (· - 1) } := by
      cases s.branch.active with
      | none => rfl
      | some p => simp [map_sub_succ p.timer n]
    rw [s.elapse_out (n + 1) held, (s.elapse n).elapse_out 1 (by simp [held]), slots, active,
      map_sub_succ s.branch.warmUpTimer, map_sub_succ s.branch.idleTimer, BitVec.ofNat_add, ← BitVec.add_assoc]
    rw [s.elapse_out n held]

/-! ### Events of the bridge's own -/

/-- A timer of the bridge stands at zero. -/
def State.TimerDue (s : State) : Prop :=
  (∃ p ∈ s.branch.active, p.timer = some 0) ∨ (∃ i : Slot, s.holdRemaining i = some 0) ∨ s.branch.warmUpTimer = some 0
    ∨ s.branch.idleTimer = some 0

/-- 05 R88: the handshake timer is the ACTIVE item's. -/
theorem State.handshakeRemaining_eq_zero (s : State) :
    s.handshakeRemaining = some 0 ↔ ∃ p ∈ s.branch.active, p.timer = some 0 := by
  simp [State.handshakeRemaining, Option.bind_eq_some_iff]

/-- 02 R37: a hold timer at zero is found. -/
theorem State.holdDue_eq_none (s : State) : s.holdDue = none ↔ ∀ i : Slot, s.holdRemaining i ≠ some 0 := by
  simp [State.holdDue]

/-- No timer at zero is passed by: with no event due, every timer has time left. -/
theorem State.not_timerDue_of_ownEvent_eq_none (s : State) (quiet : s.ownEvent = none) : ¬s.TimerDue := by
  unfold State.ownEvent at quiet
  split at quiet
  · simp at quiet
  · split at quiet
    · simp at quiet
    · split at quiet
      · simp at quiet
      · next handshake =>
        split at quiet
        · simp at quiet
        · next hold =>
          split at quiet
          · simp at quiet
          · next warmUp =>
            split at quiet
            · simp at quiet
            · next idle =>
              rintro (due | ⟨i, due⟩ | due | due)
              · exact handshake (s.handshakeRemaining_eq_zero.mpr due)
              · exact s.holdDue_eq_none.mp hold i due
              · exact warmUp due
              · exact idle due

/-- Settles O41: by what time does to each timer, and by the events due. -/
theorem timePassesWhenNothingIsWaitingOrDue : Obligations.TimePassesWhenNothingIsWaitingOrDue := by
  intro s n
  refine ⟨fun out empty quiet => ⟨s.elapse 1, step_idle s empty quiet, ?whole, ?engine, fun i => ?slot⟩, s.elapse_succ n,
    fun empty due => ?event, fun i left => if_neg left, fun left => if_neg ?handshake, fun left => if_neg left,
    fun left => if_neg left⟩
  case whole => rw [s.elapse_out 1 out]; rfl
  case engine => rw [s.elapse_out 1 out]
  case slot => rw [s.elapse_get 1 out]; rfl
  case event =>
    cases own : s.ownEvent with
    | none => exact absurd due (s.not_timerDue_of_ownEvent_eq_none own)
    | some c => exact ⟨c, rfl, step_own s c empty own⟩
  case handshake =>
    rw [s.handshakeRemaining_eq_zero]
    rintro ⟨p, active, due⟩
    exact left p active due

end Sys2Proof.Machine

/-! What the laws on items, capacities and ranges rest on, and the operations that leave it or move it in a law's bounds. -/

namespace Sys2Proof.Machine

/-! ### What the laws rest on -/

/-- The items with their references: the slots whose entry is QUEUED, the slots whose entry is on the Branch, the post queue, the
issue order list, and the reference the ACTIVE item was taken by. -/
structure Items where
  queued : Slot → Bool
  onBranch : Slot → Bool
  posts : List PostedWrite
  refs : List Ref
  active : Option Ref

/-- The settings and the configuration fields that have a range (09 R154, 07 R122). -/
structure Ranges where
  quota : BitVec 3
  writeMask : BitVec 16
  warmUp : BitVec 6
  ringOrder : BitVec 4
  ringBase : Word
  signalAddress : Word

/-- The items, the numbers of reclaim records and of notices held, and the values that have a range. -/
structure Holding where
  items : Items
  records : Nat
  backlog : Nat
  ranges : Ranges

/-- The items a state holds. -/
def State.items (s : State) : Items :=
  { queued := s.slotQueued, onBranch := s.slotOnBranch, posts := s.posts, refs := s.branch.issueOrder, active := s.activeRef }

/-- The values with a range a state holds. -/
def State.ranges (s : State) : Ranges :=
  { quota := s.mgmt.quota, writeMask := s.mgmt.writeMask, warmUp := s.mgmt.warmUp, ringOrder := s.notice.ringOrder,
    ringBase := s.notice.ringBase, signalAddress := s.notice.signalAddress }

/-- What a state holds of all that the laws on items, capacities and ranges speak of. -/
def State.holding (s : State) : Holding :=
  { items := s.items, records := s.reclaim.records.length, backlog := s.notice.backlog.length, ranges := s.ranges }

/-- 03 R48: the head of the post queue drains exactly when the ACTIVE item was taken by a posted reference. -/
theorem State.draining_eq (s : State) : s.draining = (s.activeRef == some .posted) := by
  unfold State.draining State.activeRef
  cases s.branch.active <;> simp

theorem State.ItemsTracked.of_items {s t : State} (tracked : s.ItemsTracked) (same : t.items = s.items) : t.ItemsTracked := by
  simp only [State.items, Items.mk.injEq] at same
  obtain ⟨queued, onBranch, posts, refs, active⟩ := same
  simpa only [State.ItemsTracked, State.draining_eq, queued, onBranch, posts, refs, active] using tracked

theorem State.SettingsLegal.of_ranges {s t : State} (legal : s.SettingsLegal) (same : t.ranges = s.ranges) :
    t.SettingsLegal := by
  simp only [State.ranges, Ranges.mk.injEq] at same
  obtain ⟨quota, writeMask, warmUp, ringOrder, ringBase, signalAddress⟩ := same
  simpa only [State.SettingsLegal, quota, writeMask, warmUp, ringOrder, ringBase, signalAddress] using legal

/-- What every step that admits nothing keeps: it adds no posted write and no reference, and with them it keeps the laws on the
items, the capacities and the ranges. -/
structure State.Keeps (s t : State) : Prop where
  posts : t.posts.Sublist s.posts
  refs : t.branch.issueOrder.Sublist s.branch.issueOrder
  tracked : s.ItemsTracked → t.ItemsTracked
  records : s.reclaim.records.length ≤ 8 → t.reclaim.records.length ≤ 8
  backlog : s.notice.backlog.length ≤ 4 → t.notice.backlog.length ≤ 4
  settings : s.SettingsLegal → t.SettingsLegal

/-- What every step keeps: the post queue and the issue order list lose members or gain one at the tail, and the laws hold on. -/
structure State.Lawful (s t : State) : Prop where
  posts : t.posts.Sublist s.posts ∨ ∃ p : PostedWrite, t.posts = s.posts ++ [p]
  refs : t.branch.issueOrder.Sublist s.branch.issueOrder ∨ ∃ r : Ref, t.branch.issueOrder = s.branch.issueOrder ++ [r]
  tracked : s.ItemsTracked → t.ItemsTracked
  capacity : s.WithinCapacity → t.WithinCapacity
  settings : s.SettingsLegal → t.SettingsLegal

theorem State.Keeps.lawful {s t : State} (kept : s.Keeps t) : s.Lawful t where
  posts := .inl kept.posts
  refs := .inl kept.refs
  tracked := kept.tracked
  capacity := fun ⟨posts, records, backlog⟩ =>
    ⟨kept.posts.length_le.trans posts, kept.records records, kept.backlog backlog⟩
  settings := kept.settings

theorem State.Keeps.trans {s t u : State} (first : s.Keeps t) (second : t.Keeps u) : s.Keeps u where
  posts := second.posts.trans first.posts
  refs := second.refs.trans first.refs
  tracked := second.tracked ∘ first.tracked
  records := second.records ∘ first.records
  backlog := second.backlog ∘ first.backlog
  settings := second.settings ∘ first.settings

/-- The items stay; the reclaim log, the backlog and the values with a range stay in their bounds. -/
theorem State.Keeps.of_items {s t : State} (items : t.items = s.items)
    (records : s.reclaim.records.length ≤ 8 → t.reclaim.records.length ≤ 8)
    (backlog : s.notice.backlog.length ≤ 4 → t.notice.backlog.length ≤ 4) (settings : s.SettingsLegal → t.SettingsLegal) :
    s.Keeps t where
  posts := by rw [show t.posts = s.posts from congrArg Items.posts items]
  refs := by rw [show t.branch.issueOrder = s.branch.issueOrder from congrArg Items.refs items]
  tracked := fun tracked => tracked.of_items items
  records := records
  backlog := backlog
  settings := settings

theorem State.Keeps.of_same {s t : State} (same : t.holding = s.holding) : s.Keeps t := by
  simp only [State.holding, Holding.mk.injEq] at same
  obtain ⟨items, records, backlog, ranges⟩ := same
  exact .of_items items (by rw [records]; exact id) (by rw [backlog]; exact id) fun legal => legal.of_ranges ranges

theorem State.Keeps.refl (s : State) : s.Keeps s := .of_same rfl

/-- 08 R137: the answer given is held nowhere. -/
theorem State.Keeps.answer {s t : State} (kept : s.Keeps t) (a : Answer) : s.Keeps (t.answer a) := kept.trans (.of_same rfl)

/-! ### Operations that leave what is held as it is -/

/-- 04 R84: becoming idle concerns the power and the idle timer alone. -/
@[simp] theorem State.settle_holding (s t : State) : (State.settle s t).holding = t.holding := by
  unfold State.settle State.becomeIdle
  split
  · split <;> rfl
  · rfl

@[simp] theorem State.expireWarmUp_holding (s : State) : s.expireWarmUp.holding = s.holding := by
  unfold State.expireWarmUp; split <;> rfl

@[simp] theorem State.issueSignal_holding (s : State) : s.issueSignal.holding = s.holding := by
  unfold State.issueSignal; split <;> rfl

@[simp] theorem State.writeWait_holding (s : State) (reason : StallReason) : (s.writeWait reason).holding = s.holding := by
  simp only [State.writeWait]; split <;> rfl

/-- Two tables with QUEUED entries, and entries on the Branch, in the same slots. -/
theorem State.holding_slots (s : State) (slots : Vector (Option Entry) 8)
    (queued : ∀ i : Slot, (slots.get i).any Entry.queued = s.slotQueued i)
    (onBranch : ∀ i : Slot, (slots.get i).any Entry.onBranch = s.slotOnBranch i) :
    State.holding { s with slots := slots } = s.holding := by
  have queued' : State.slotQueued { s with slots := slots } = s.slotQueued := funext queued
  have onBranch' : State.slotOnBranch { s with slots := slots } = s.slotOnBranch := funext onBranch
  simp only [State.holding, State.items, queued', onBranch']
  rfl

/-- 02 R24: a READY entry is neither QUEUED nor on the Branch. -/
theorem Entry.settled_of_ready {e : Entry} {r : Result} {hold : Option Nat} (phase : e.phase = .ready r hold) :
    e.queued = false ∧ e.onBranch = false := by
  obtain ⟨request, route, p⟩ := e
  obtain rfl : p = .ready r hold := phase
  exact ⟨rfl, rfl⟩

/-- 02 R24: the slot of a READY entry becomes FREE and no item moves. -/
theorem State.freeEntry_holding (s : State) {i : Slot} {e : Entry} {r : Result} {hold : Option Nat}
    (slot : s.slots.get i = some e) (phase : e.phase = .ready r hold) : (s.freeEntry i).holding = s.holding := by
  refine s.holding_slots _ (fun j => ?_) fun j => ?_ <;> rw [slots_set_get] <;> split
  · next same => simp [State.slotQueued, ← same, slot, Entry.settled_of_ready phase]
  · rfl
  · next same => simp [State.slotOnBranch, ← same, slot, Entry.settled_of_ready phase]
  · rfl

/-- 04 R70: the ACTIVE item goes on under its reference. -/
theorem State.progress_holding (s : State) {p p' : Progress} (active : s.branch.active = some p) (item : p'.item = p.item) :
    State.holding { s with branch.active := some p' } = s.holding := by
  have ref : State.activeRef { s with branch.active := some p' } = s.activeRef := by
    simp [State.activeRef, active, item]
  simp only [State.holding, State.items, ref]
  rfl

theorem Entry.elapse_phase (e : Entry) (n : Nat) :
    (e.elapse n).queued = e.queued ∧ (e.elapse n).onBranch = e.onBranch := by
  obtain ⟨request, route, phase⟩ := e
  cases phase <;> exact ⟨rfl, rfl⟩

/-- 09 R156: time moves no item. -/
@[simp] theorem State.elapse_holding (s : State) (n : Nat) : (s.elapse n).holding = s.holding := by
  by_cases held : s.port.held = true
  · rw [s.elapse_held n held]
  · obtain ⟨mgmt, active, -, -, slots⟩ := s.elapse_running n (by simpa using held)
    have queued : (s.elapse n).slotQueued = s.slotQueued := by
      funext i
      rw [State.slotQueued, slots, State.slotQueued]
      cases s.slots.get i <;> simp [Entry.elapse_phase]
    have onBranch : (s.elapse n).slotOnBranch = s.slotOnBranch := by
      funext i
      rw [State.slotOnBranch, slots, State.slotOnBranch]
      cases s.slots.get i <;> simp [Entry.elapse_phase]
    have ref : (s.elapse n).activeRef = s.activeRef := by
      rw [State.activeRef, active, State.activeRef, Option.map_map]; rfl
    simp [State.holding, State.items, State.ranges, queued, onBranch, ref]

/-! ### Notices and reclaim records -/

/-- 07 R123: a notice joins a backlog of fewer than 4. -/
theorem State.generate_keeps (s : State) (e : Event) : s.Keeps (s.generate e) := by
  refine .of_items rfl id (fun within => ?_) id
  rw [State.generate_backlog]
  split
  · next takes =>
    have room : s.notice.backlog.length < 4 := of_decide_eq_true (Bool.and_eq_true_iff.mp takes).2
    rw [List.length_append, List.length_singleton]; omega
  · exact within

/-- 06 R108: a record joins a log of fewer than 8. -/
theorem State.handOver_keeps (s : State) (e : Entry) (data : List Word) : s.Keeps (s.handOver e data) := by
  unfold State.handOver
  split
  · next room =>
    refine .of_items rfl (fun _ => ?_) id id
    have room : s.reclaim.records.length < 8 := of_decide_eq_true room
    show (s.reclaim.records ++ [_]).length ≤ 8
    rw [List.length_append, List.length_singleton]; omega
  · exact .refl s

/-- 02 R37. -/
theorem State.dispose_keeps (s : State) (e : Entry) (r : Result) : s.Keeps (s.dispose e r) := by
  unfold State.dispose
  split
  · split
    · exact (s.handOver_keeps e r.data).trans (State.generate_keeps _ _)
    · exact s.generate_keeps _
  · exact s.generate_keeps _

/-- 06 R106: what several reads make of the log stays within its places. -/
theorem State.logWith_length_le (s : State) (reads : List (Entry × List Word)) (within : s.reclaim.records.length ≤ 8) :
    (s.logWith reads).records.length ≤ 8 := by
  simp [State.logWith, State.room]; omega

/-- 07 R123: the notices of the reads lost. -/
theorem State.overflowed_keeps (s : State) (reads : List (Entry × List Word)) : s.Keeps (s.overflowed reads) := by
  unfold State.overflowed
  generalize s.window.epoch = epoch
  induction reads generalizing s with
  | nil => exact .refl s
  | cons x reads ih =>
    have told := s.generate_keeps
      { kind := .reclaimOverflow, window := some x.1.route.window, requester := some x.1.request.requester, epoch := epoch,
        detail := x.1.request.address, aux := BitVec.ofNat 16 x.1.request.access.count }
    rw [State.generate_eq_notified] at told
    exact told.trans (ih _)

end Sys2Proof.Machine

/-! The law on the items kept by each event that moves one: the take, the end, the purge, FLUSH, reset and admission. -/

namespace Sys2Proof.Machine

/-! ### The law on the items, event by event -/

/-- An entry is in one phase. -/
theorem Entry.queued_eq_false_of_onBranch {e : Entry} (onBranch : e.onBranch = true) : e.queued = false := by
  refine Entry.queued_eq_false fun queued => ?_
  simp [Entry.onBranch, queued] at onBranch

/-- 05 R96: an entry the purge takes is QUEUED no more; none leaves the Branch or comes onto it. -/
theorem State.purgeEntry_phase (s : State) (w : WindowNo) (ep : BitVec 8) (e : Entry) :
    (s.purgeEntry w ep e).queued = (e.queued && !(e.queued && e.route.names w ep))
      ∧ (s.purgeEntry w ep e).onBranch = e.onBranch := by
  cases taken : e.queued && e.route.names w ep with
  | true =>
    have queued : e.queued = true := (Bool.and_eq_true_iff.mp taken).1
    have off : e.onBranch = false :=
      Bool.eq_false_iff.mpr fun on => by simp [Entry.queued_eq_false_of_onBranch on] at queued
    obtain ⟨unqueued, inside⟩ := Entry.settled_of_ready (e := s.purgeEntry w ep e) (by rw [s.purgeEntry_taken taken])
    rw [unqueued, inside, off, queued]
    exact ⟨rfl, rfl⟩
  | false => simp [s.purgeEntry_left taken]

/-- 04 R79 steps 1 and 2: the bridge after the owner took the outcome of the item that ends. -/
def State.itemLeft (s : State) (r : Ref) (result : Result) : State := State.ownerTakes { s with branch.active := none } r result

theorem State.itemLeft_branch (s : State) (r : Ref) (result : Result) :
    (s.itemLeft r result).branch = { s.branch with active := none } := State.ownerTakes_branch ..

theorem State.itemLeft_posts (s : State) (r : Ref) (result : Result) :
    (s.itemLeft r result).posts = if r = .posted then s.posts.tail else s.posts := State.ownerTakes_posts ..

theorem State.itemLeft_get_other (s : State) {r : Ref} {i : Slot} (result : Result) (other : r ≠ .entry i) :
    (s.itemLeft r result).slots.get i = s.slots.get i := State.ownerTakes_get_other _ _ _ _ other

/-- 02 R35, R42: the slot of an item that left is READY or FREE. -/
theorem State.itemLeft_slot (s : State) (i : Slot) (result : Result) :
    (s.itemLeft (.entry i) result).slotQueued i = false ∧ (s.itemLeft (.entry i) result).slotOnBranch i = false := by
  unfold State.slotQueued State.slotOnBranch State.itemLeft
  cases slot : s.slots.get i with
  | none => simp [State.ownerTakes, slot]
  | some e =>
    rw [State.ownerTakes_get_same { s with branch.active := none } i e result slot]
    split <;> exact ⟨rfl, rfl⟩

section
variable {s t : State}

/-- 04 R66: a slot whose entry is on the Branch is not QUEUED. -/
theorem State.slotQueued_eq_false {i : Slot} (onBranch : s.slotOnBranch i = true) : s.slotQueued i = false := by
  unfold State.slotOnBranch at onBranch
  unfold State.slotQueued
  cases slot : s.slots.get i with
  | none => rfl
  | some e => exact Entry.queued_eq_false_of_onBranch (by simpa [slot] using onBranch)

/-- 09 R159, R160: nothing held, nothing referenced. -/
theorem State.itemsTracked_of_empty (slots : s.slots = Vector.replicate 8 none) (posts : s.posts = [])
    (refs : s.branch.issueOrder = []) (active : s.branch.active = none) : s.ItemsTracked := by
  simp [State.ItemsTracked, State.draining, State.activeRef, State.slotQueued, State.slotOnBranch, slots, posts, refs,
    active]

/-- 04 R69: the entry at the head becomes the ACTIVE item. -/
theorem State.ItemsTracked.entry_taken {i : Slot} {rest : List Ref} (tracked : s.ItemsTracked)
    (inactive : s.activeRef = none) (order : s.branch.issueOrder = .entry i :: rest)
    (queued : ∀ j : Slot, t.slotQueued j = if i = j then false else s.slotQueued j)
    (onBranch : ∀ j : Slot, t.slotOnBranch j = if i = j then true else s.slotOnBranch j)
    (posts : t.posts = s.posts) (refs : t.branch.issueOrder = rest) (active : t.activeRef = some (.entry i)) :
    t.ItemsTracked := by
  obtain ⟨once, waiting, running, count⟩ := tracked
  rw [order] at once waiting count
  have absent : .entry i ∉ rest := fun mem => by simp [mem] at once
  refine ⟨?_, fun j => ?_, fun j => ?_, ?_⟩
  · rw [refs]; simpa using (List.nodup_cons.mp once).2
  · rw [refs, queued]
    split
    · next same => simpa [← same] using absent
    · next other => rw [← waiting j, List.mem_cons]; simp [Ne.symm other]
  · rw [active, onBranch]
    split
    · next same => simp [same]
    · next other => rw [← running j, inactive]; simp [other]
  · rw [State.draining_eq] at count ⊢
    simpa [active, inactive, refs, posts] using count

/-- 03 R54: the posted write at the head drains. -/
theorem State.ItemsTracked.posted_taken {rest : List Ref} (tracked : s.ItemsTracked)
    (inactive : s.activeRef = none) (order : s.branch.issueOrder = .posted :: rest)
    (slots : t.slots = s.slots) (posts : t.posts = s.posts) (refs : t.branch.issueOrder = rest)
    (active : t.activeRef = some .posted) : t.ItemsTracked := by
  obtain ⟨once, waiting, running, count⟩ := tracked
  rw [order] at once waiting count
  refine ⟨?_, fun j => ?_, fun j => ?_, ?_⟩
  · rw [refs]; simpa using once
  · rw [refs, State.slotQueued, slots, ← State.slotQueued, ← waiting j]; simp
  · rw [active, State.slotOnBranch, slots, ← State.slotOnBranch, ← running j, inactive]; simp
  · rw [State.draining_eq] at count ⊢
    simpa [active, inactive, refs, posts] using count

/-- 04 R79 step 2: the ACTIVE item leaves with its slot READY or FREE, or as the head of the post queue. -/
theorem State.ItemsTracked.itemLeft {p : Progress} (tracked : s.ItemsTracked) (active : s.branch.active = some p)
    (result : Result) : (s.itemLeft p.item result).ItemsTracked := by
  have named : s.activeRef = some p.item := by rw [State.activeRef, active]; rfl
  have count := tracked.count_posted active
  obtain ⟨once, waiting, running, -⟩ := tracked
  have queued (j : Slot) : (s.itemLeft p.item result).slotQueued j = s.slotQueued j := by
    by_cases own : p.item = .entry j
    · have onBranch := (running j).mp (by rw [named, own])
      rw [own, (s.itemLeft_slot j result).1, State.slotQueued_eq_false onBranch]
    · rw [State.slotQueued, s.itemLeft_get_other result own, State.slotQueued]
  have onBranch (j : Slot) : (s.itemLeft p.item result).slotOnBranch j = false := by
    by_cases own : p.item = .entry j
    · rw [own, (s.itemLeft_slot j result).2]
    · rw [State.slotOnBranch, s.itemLeft_get_other result own, ← State.slotOnBranch, ← Bool.not_eq_true, ← running j,
        named]
      simpa using own
  refine ⟨?_, fun j => ?_, fun j => ?_, ?_⟩
  · rw [s.itemLeft_branch]; exact once
  · rw [s.itemLeft_branch, queued]; exact waiting j
  · rw [onBranch, State.activeRef, s.itemLeft_branch]; simp
  · rw [State.draining, s.itemLeft_branch, s.itemLeft_posts]; simpa using count

/-- 05 R96: the purge takes references with what they name. -/
theorem State.ItemsTracked.fencedState (tracked : s.ItemsTracked) (inactive : s.branch.active = none) (w : WindowNo)
    (ep : BitVec 8) : (s.fencedState w ep).ItemsTracked := by
  obtain ⟨once, waiting, running, count⟩ := tracked
  have queued (i : Slot) : (s.fencedState w ep).slotQueued i = (s.slotQueued i && !s.purges w ep i) := by
    simp only [State.slotQueued, State.fencedState, mapSlots_get, State.purges]
    cases s.slots.get i with
    | none => rfl
    | some e => exact (s.purgeEntry_phase w ep e).1
  have onBranch (i : Slot) : (s.fencedState w ep).slotOnBranch i = s.slotOnBranch i := by
    simp only [State.slotOnBranch, State.fencedState, mapSlots_get]
    cases s.slots.get i with
    | none => rfl
    | some e => exact (s.purgeEntry_phase w ep e).2
  have idle : s.draining = false := by simp [State.draining, inactive]
  have named : s.branch.issueOrder.count .posted = s.posts.length := by simpa [idle] using count
  refine ⟨?_, fun i => ?_, fun i => ?_, ?_⟩
  · exact once.sublist ((s.purgeRefs_sublist w ep _ _).filter _)
  · rw [queued]
    refine (s.entry_mem_purgeRefs w ep _ _ i).trans ?_
    simp [waiting i]
  · rw [onBranch]; exact running i
  · have remain := s.count_posted_purgeRefs w ep _ _ named
    show _ + (if s.draining = true then 1 else 0) = _
    rw [idle]; exact remain

/-- 02 R40: FLUSH takes the QUEUED entries with their references, and leaves what is on the Branch there. -/
theorem State.ItemsTracked.flushTold (tracked : s.ItemsTracked) (r : Requester) : (s.flushTold r).ItemsTracked := by
  have refs : (s.flushTold r).branch.issueOrder = s.branch.issueOrder.filter (· == .posted) := s.refsFlushed_all tracked
  obtain ⟨once, waiting, running, count⟩ := tracked
  have slot (i : Slot) : (s.flushTold r).slotQueued i = false ∧ (s.flushTold r).slotOnBranch i = s.slotOnBranch i := by
    simp only [State.slotQueued, State.slotOnBranch, State.flushTold_get]
    cases s.slots.get i with
    | none => exact ⟨rfl, rfl⟩
    | some e =>
      obtain ⟨request, route, phase⟩ := e
      cases phase <;> exact ⟨rfl, rfl⟩
  refine ⟨?_, fun i => ?_, fun i => ?_, ?_⟩
  · rw [refs, List.filter_eq_nil_iff.mpr (by simp)]; exact List.nodup_nil
  · rw [refs, (slot i).1]; simp
  · rw [(slot i).2]; exact running i
  · rw [refs, List.count_filter (by simp)]; exact count

/-- 02 R30, 04 R67: an entry admitted QUEUED to a FREE slot, with its reference at the tail. -/
theorem State.ItemsTracked.entry_admitted {i : Slot} {e : Entry} (tracked : s.ItemsTracked) (free : s.slots.get i = none)
    (queued : e.phase = .queued) (slots : t.slots = s.slots.set i (some e)) (posts : t.posts = s.posts)
    (refs : t.branch.issueOrder = s.branch.issueOrder ++ [.entry i]) (active : t.branch.active = s.branch.active) :
    t.ItemsTracked := by
  obtain ⟨once, waiting, running, count⟩ := tracked
  have absent : .entry i ∉ s.branch.issueOrder := by rw [waiting i]; simp [State.slotQueued, free]
  refine ⟨?_, fun j => ?_, fun j => ?_, ?_⟩
  · rw [refs]
    simpa [List.nodup_append, once] using fun r mem _ => ne_of_mem_of_not_mem mem absent
  · rw [refs, List.mem_append, waiting j, State.slotQueued, State.slotQueued, slots, slots_set_get]
    split
    · next same => simp [same, Entry.queued, queued]
    · next other => simp [Ne.symm other]
  · rw [State.activeRef, active, ← State.activeRef, running j, State.slotOnBranch, State.slotOnBranch, slots, slots_set_get]
    split
    · next same => simp [← same, free, Entry.onBranch, queued]
    · rfl
  · rw [State.draining, active, ← State.draining, refs, posts]
    simpa using count

/-- 03 R49, R52: a posted write admitted, with its reference at the tail. -/
theorem State.ItemsTracked.posted_admitted {p : PostedWrite} (tracked : s.ItemsTracked) (slots : t.slots = s.slots)
    (posts : t.posts = s.posts ++ [p]) (refs : t.branch.issueOrder = s.branch.issueOrder ++ [.posted])
    (active : t.branch.active = s.branch.active) : t.ItemsTracked := by
  obtain ⟨once, waiting, running, count⟩ := tracked
  refine ⟨?_, fun j => ?_, fun j => ?_, ?_⟩
  · rw [refs]; simpa using once
  · rw [refs, State.slotQueued, slots, ← State.slotQueued, ← waiting j]; simp
  · rw [State.activeRef, active, State.slotOnBranch, slots]; exact running j
  · rw [State.draining, active, ← State.draining, refs, posts, List.length_append, ← count]
    simp; omega

end

end Sys2Proof.Machine

/-! The laws on items, capacities and ranges kept by every command. -/

namespace Sys2Proof.Machine

/-! ### The end of an item -/

/-- 04 R79 steps 1 and 2. -/
theorem State.itemLeft_keeps (s : State) {p : Progress} (active : s.branch.active = some p) (result : Result) :
    s.Keeps (s.itemLeft p.item result) := by
  obtain ⟨-, reclaim, notice, mgmt, -⟩ := State.ownerTakes_frame { s with branch.active := none } p.item result
  have ranges : (s.itemLeft p.item result).ranges = s.ranges := by
    simp only [State.ranges, State.itemLeft, notice, mgmt]
  refine ⟨?_, ?_, fun tracked => tracked.itemLeft active result, ?_, ?_, fun legal => legal.of_ranges ranges⟩
  · rw [s.itemLeft_posts]
    split
    · exact List.tail_sublist _
    · exact .refl _
  · rw [s.itemLeft_branch]
  · rw [State.itemLeft, reclaim]; exact id
  · rw [State.itemLeft, notice]; exact id

/-- 05 R95: the fence handling finds no item ACTIVE. -/
theorem State.fenceHandling_keeps (s : State) (inactive : s.branch.active = none) (it : Item) (index : BranchIndex) :
    s.Keeps (s.fenceHandling it index) := by
  rw [State.fenceHandling_eq]
  have purged : s.Keeps (s.fencedState it.route.window it.route.epoch) :=
    ⟨List.filter_sublist, s.purgeRefs_sublist .., fun tracked => tracked.fencedState inactive _ _, id, id, id⟩
  exact purged.trans (State.generate_keeps _ _)

/-- 04 R79 steps 3 and 4. -/
theorem State.engineReport_keeps (s : State) (inactive : s.branch.active = none) (ending : Ending) (it : Item) (p : Progress)
    (index : BranchIndex) : s.Keeps (s.engineReport ending it p index) := by
  cases ending with
  | ok =>
    simp only [State.engineReport]
    split
    · exact .refl s
    · exact s.generate_keeps _
  | device | skipped => exact s.generate_keeps _
  | fenced => exact s.fenceHandling_keeps inactive it index

/-- 02 R42. -/
theorem State.disposeCancelled_keeps (s : State) (e : Option Entry) (r : Result) : s.Keeps (s.disposeCancelled e r) := by
  cases e with
  | none => exact .refl s
  | some e =>
    simp only [State.disposeCancelled]
    split
    · exact s.dispose_keeps e r
    · exact .refl s

/-- 04 R79. -/
theorem State.endItem_keeps (s : State) (ending : Ending) : s.Keeps (s.endItem ending) := by
  rcases s.endItem_cases ending with same | ⟨p, it, active, item⟩
  · rw [same]; exact .refl s
  · rw [s.endItem_eq ending active item]
    refine (s.itemLeft_keeps active _).trans <| (State.engineReport_keeps _ ?_ ..).trans <|
      (State.disposeCancelled_keeps ..).trans (.of_same (State.settle_holding ..))
    rw [s.itemLeft_branch]

/-- 05 R90. -/
theorem State.expireHandshake_keeps (s : State) : s.Keeps s.expireHandshake := by
  unfold State.expireHandshake
  split
  · exact .refl s
  · next p active =>
    split
    · exact .refl s
    · split
      · exact .of_same (s.progress_holding active rfl)
      · split <;> exact s.endItem_keeps _

/-! ### Other rows of the engine, and hold expiry -/

/-- 04 R69: what can be taken is the head of the list, while no item is ACTIVE. -/
theorem State.head_of_takeable {s : State} {r : Ref} {it : Item} (found : s.takeable = some (r, it)) :
    s.branch.active = none ∧ s.branch.issueOrder = r :: s.branch.issueOrder.tail := by
  unfold State.takeable at found
  split at found
  · simp at found
  · next head rest order =>
    split at found
    · next free =>
      obtain ⟨_, -, same⟩ := Option.map_eq_some_iff.mp found
      obtain ⟨rfl, -⟩ := Prod.mk.inj same
      exact ⟨by simpa using (Bool.and_eq_true_iff.mp free).2, by rw [order]; rfl⟩
    · simp at found

/-- 04 R69, 02 R34, 03 R54. -/
theorem execTakeHead_keeps (s : State) : ∃ t : State, execTakeHead s = .next t ∧ s.Keeps t := by
  unfold execTakeHead
  split
  · next r it found =>
    obtain ⟨inactive, order⟩ := State.head_of_takeable found
    have unnamed : s.activeRef = none := by rw [State.activeRef, inactive]; rfl
    refine ⟨_, rfl, ?_⟩
    cases r with
    | posted =>
      exact ⟨.refl _, List.tail_sublist _, fun tracked => tracked.posted_taken unnamed order rfl rfl rfl rfl, id, id, id⟩
    | entry i =>
      obtain ⟨e, slot, queued⟩ := State.queued_of_waitingItem (State.waitingItem_of_takeable found)
      refine ⟨.refl _, List.tail_sublist _, fun tracked => ?_, id, id, id⟩
      refine tracked.entry_taken unnamed order (fun j => ?_) (fun j => ?_) rfl rfl rfl
      · simp only [State.slotQueued, State.markTaken, slots_set_get, slot]
        split <;> rfl
      · simp only [State.slotOnBranch, State.markTaken, slots_set_get, slot]
        split <;> rfl
  · exact ⟨s, rfl, .refl s⟩

/-- 04 R76. -/
theorem execBranchAck_keeps (data : HalfWord) (s : State) : ∃ t : State, execBranchAck data s = .next t ∧ s.Keeps t := by
  unfold execBranchAck
  split
  · exact ⟨s, rfl, .refl s⟩
  · next p active =>
    split
    · exact ⟨s, rfl, .refl s⟩
    · next c _ =>
      have acked : s.Keeps { s with branch.active := some (p.acked c data (s.activeLimit p)) } :=
        .of_same (s.progress_holding active rfl)
      dsimp only
      split
      · exact ⟨_, rfl, acked⟩
      · exact ⟨_, rfl, acked.trans (State.endItem_keeps _ _)⟩

/-- 02 R37. -/
theorem State.expireHold_keeps (s : State) (i : Slot) : s.Keeps (s.expireHold i) := by
  unfold State.expireHold
  split
  · next e slot =>
    split
    · next r n phase => exact (State.Keeps.of_same (s.freeEntry_holding slot phase)).trans (State.dispose_keeps _ _ _)
    · exact .refl s
  · exact .refl s

/-! ### The notice engine -/

/-- 07 R125 step 4. -/
theorem State.ringHalf_keeps (s : State) : s.Keeps s.ringHalf := by
  unfold State.ringHalf
  split
  · have disarmed : s.Keeps { s with notice.halfArmed := false } := .of_same rfl
    exact disarmed.trans (State.generate_keeps _ _)
  · exact .refl s

/-- 07 R125 steps 4 and 5. -/
theorem State.ringHalf_issueSignal_keeps (s : State) : s.Keeps s.ringHalf.issueSignal :=
  s.ringHalf_keeps.trans (.of_same (State.issueSignal_holding _))

/-- 07 R125 steps 1 to 3: the notice delivered leaves the backlog. -/
theorem State.recordDelivered_keeps (s : State) : s.Keeps s.recordDelivered :=
  .of_items rfl id (List.tail_sublist _).length_le.trans id

theorem execRecordWrite_keeps (s : State) : ∃ t : State, execRecordWrite s = .next t ∧ s.Keeps t := by
  unfold execRecordWrite
  split
  · split
    · exact ⟨_, rfl, .of_same rfl⟩
    · exact ⟨s, rfl, .refl s⟩
  · exact ⟨s, rfl, .refl s⟩

/-- 07 R131. -/
theorem State.abandonedDone_keeps (s : State) (restarted : Bool) : s.Keeps (s.abandonedDone restarted) := by
  have landed : s.Keeps s.recordLanded := .of_same rfl
  unfold State.abandonedDone
  split
  · exact landed
  · split
    · exact .of_same rfl
    · exact landed.trans (State.ringHalf_issueSignal_keeps _)
  · split
    · exact .of_same rfl
    · exact landed

theorem execAbandonedWriteAnswer_keeps (answer : WriteAnswer) (s : State) :
    ∃ t : State, execAbandonedWriteAnswer answer s = .next t ∧ s.Keeps t := by
  unfold execAbandonedWriteAnswer
  split
  · split
    · exact ⟨_, rfl, s.abandonedDone_keeps _⟩
    · exact ⟨_, rfl, .of_same rfl⟩
  · exact ⟨s, rfl, .refl s⟩

/-- 07 R122, R127. -/
theorem State.noticeStart_keeps (s : State) (r : Requester) : s.Keeps (s.noticeStart r) := by
  unfold State.noticeStart
  split
  · split
    · exact .of_same rfl
    · split <;> exact .of_same rfl
  · exact .of_same rfl
  · exact .of_same rfl

/-- 07 R122: a configuration field takes a value in its range alone. -/
theorem State.configWrite_keeps (s : State) (r : Requester) (field : ConfigField) (v : Word) :
    s.Keeps (s.configWrite r field v) := by
  unfold State.configWrite
  split
  · split
    · next inRange =>
      cases field with
      | signalValue | signalEnable | ownRequester => exact .of_same rfl
      | ringBase =>
        have base : v.toNat % 16 = 0 := by simpa [ConfigField.inRange] using inRange
        exact .of_items rfl id id fun ⟨quota, mask, warmUp, order, _, signal⟩ =>
          ⟨quota, mask, warmUp, order, base, signal⟩
      | signalAddress =>
        have signal : v.toNat % 4 = 0 := by simpa [ConfigField.inRange] using inRange
        exact .of_items rfl id id fun ⟨quota, mask, warmUp, order, base, _⟩ =>
          ⟨quota, mask, warmUp, order, base, signal⟩
      | ringOrder =>
        have order : 3 ≤ (v.setWidth 4).toNat ∧ (v.setWidth 4).toNat ≤ 10 := by
          simp [ConfigField.inRange] at inRange ⊢; omega
        exact .of_items rfl id id fun ⟨quota, mask, warmUp, _, base, signal⟩ =>
          ⟨quota, mask, warmUp, .inr order, base, signal⟩
    · exact .of_same rfl
  · exact .of_same rfl

/-- 07 R130. -/
theorem State.consumerWrite_keeps (s : State) (r : Requester) (v : Word) : s.Keeps (s.consumerWrite r v) := by
  simp only [State.consumerWrite]
  split <;> exact .of_same rfl

/-! ### Settings -/

/-- 09 R154: a setting takes a value in its range alone. -/
theorem State.settingWrite_keeps (s : State) (r : Requester) (inRange : Bool) (taken : State → State)
    (effect : inRange = true → s.Keeps (taken s)) : s.Keeps (State.settingWrite r inRange taken s) := by
  unfold State.settingWrite
  split
  · next holds => exact (effect holds).trans (.of_same rfl)
  · exact .of_same rfl

theorem State.writeSetting_keeps (s : State) (r : Requester) (which : Setting) (v : Word) :
    s.Keeps (s.writeSetting r which v) := by
  cases which with
  | requesterQuota =>
    unfold State.writeSetting State.quotaWrite
    refine s.settingWrite_keeps r _ _ fun inRange => ?_
    have quota : 1 ≤ (v.setWidth 3).toNat ∧ (v.setWidth 3).toNat ≤ 4 := by simp at inRange ⊢; omega
    exact .of_items rfl id id fun ⟨_, rest⟩ => ⟨quota, rest⟩
  | writeMask =>
    unfold State.writeSetting State.writeMaskWrite
    refine s.settingWrite_keeps r _ _ fun inRange => ?_
    have mask : v.setWidth 16 ≠ 0 := by simp [← BitVec.toNat_inj] at inRange ⊢; omega
    exact .of_items rfl id id fun ⟨quota, _, rest⟩ => ⟨quota, mask, rest⟩
  | warmUp =>
    unfold State.writeSetting State.warmUpWrite
    refine s.settingWrite_keeps r _ _ fun inRange => ?_
    have warmUp : v.setWidth 6 ≠ 0 := by simp [← BitVec.toNat_inj] at inRange ⊢; omega
    exact .of_items rfl id id fun ⟨quota, mask, _, rest⟩ => ⟨quota, mask, warmUp, rest⟩
  | holdLimit =>
    unfold State.writeSetting State.holdLimitWrite
    exact s.settingWrite_keeps r _ _ fun _ => .of_same rfl
  | autoPark =>
    unfold State.writeSetting State.autoParkWrite
    refine s.settingWrite_keeps r _ _ fun _ => ?_
    split <;> exact .of_same rfl

/-! ### Commands -/

/-- 02 R40. -/
theorem State.flush_keeps (s : State) (r : Requester) : s.Keeps (s.flush r) := by
  have lost := s.overflowed_keeps ((s.readsOf (List.finRange 8)).drop s.room)
  have settings (legal : s.SettingsLegal) : (s.flushed (List.finRange 8)).SettingsLegal := by
    have told := lost.settings legal
    rw [State.SettingsLegal, State.overflowed_mgmt] at told
    exact told
  have generated := State.generate_keeps (s.flushed (List.finRange 8))
    ((s.flushed (List.finRange 8)).flushedEvent r (s.flushCounts (List.finRange 8)))
  have told : s.Keeps (s.flushTold r) :=
    ⟨.refl _, List.filter_sublist, fun tracked => tracked.flushTold r, s.logWith_length_le _,
      generated.backlog ∘ lost.backlog, generated.settings ∘ settings⟩
  rw [s.flush_eq r]
  exact told.trans <| (State.Keeps.of_same (State.settle_holding ..)).trans (.of_same rfl)

/-- 09 R159. -/
theorem State.bridgeReset_keeps (s : State) (r : Requester) : s.Keeps (s.bridgeReset r) := by
  rw [s.bridgeReset_eq r]
  have reset : s.Keeps (State.softResetBlocks { s with reclaim := s.logWith s.undelivered }) :=
    ⟨List.nil_sublist _, List.nil_sublist _, fun _ => State.itemsTracked_of_empty rfl rfl rfl rfl, s.logWith_length_le _,
      fun _ => Nat.zero_le _, id⟩
  exact reset.trans <| (State.generate_keeps _ _).trans (.of_same rfl)

/-- 05 R100. -/
theorem State.branchAbort_keeps (s : State) (r : Requester) : s.Keeps (s.branchAbort r) := by
  unfold State.branchAbort
  split
  · exact (s.endItem_keeps _).trans (.of_same rfl)
  · exact .of_same rfl

/-- 01 R10, R11. -/
theorem State.commit_keeps (s : State) (r : Requester) : s.Keeps (s.commit r) := by
  unfold State.commit
  split
  · have installed : s.Keeps s.install := .of_same rfl
    exact installed.trans <| (State.generate_keeps _ _).trans (.of_same rfl)
  · exact (s.generate_keeps _).trans (.of_same rfl)

/-- 06 R114. -/
theorem State.reclaimPop_keeps (s : State) (r : Requester) : s.Keeps (s.reclaimPop r) := by
  unfold State.reclaimPop
  split
  · next head rest records =>
    refine .of_items rfl (fun within => ?_) id id
    rw [records] at within
    exact (Nat.le_succ _).trans within
  · exact .of_same rfl

theorem State.takeCommand_keeps (s : State) (r : Requester) (argument : BitVec 8) (c : Command) :
    s.Keeps (s.takeCommand r argument c) := by
  cases c with
  | commit => exact s.commit_keeps r
  | unfence =>
    simp only [State.takeCommand, State.unfence]
    split
    · split <;> exact .of_same rfl
    · exact .of_same rfl
  | flush => exact s.flush_keeps r
  | reclaimPop => exact s.reclaimPop_keeps r
  | reclaimClear => exact .of_items rfl (fun _ => Nat.zero_le _) id id
  | noticeStart => exact s.noticeStart_keeps r
  | noticeStop => exact .of_items rfl id (fun _ => Nat.zero_le _) id
  | park => simp only [State.takeCommand, State.park]; split <;> exact .of_same rfl
  | wake => simp only [State.takeCommand, State.wake]; split <;> exact .of_same rfl
  | branchAbort => exact s.branchAbort_keeps r
  | bridgeReset => exact s.bridgeReset_keeps r
  | revert | timeSet => exact .of_same rfl

theorem State.commandWrite_keeps (s : State) (r : Requester) (code argument : BitVec 8) :
    s.Keeps (s.commandWrite r code argument) := by
  unfold State.commandWrite
  split
  · exact s.takeCommand_keeps r argument _
  · exact .of_same rfl

theorem State.writeWord_keeps (s : State) (r : Requester) (word : ApertureWord) (v : Word) : s.Keeps (s.writeWord r word v) := by
  cases word with
  | setting which => exact s.writeSetting_keeps r which v
  | command => exact s.commandWrite_keeps r _ _
  | config field => exact s.configWrite_keeps r field v
  | consumer => exact s.consumerWrite_keeps r v
  | _ => exact .of_same rfl

theorem State.apertureGate_keeps (s : State) (r : Requester) (f : State → State) (effect : s.Keeps (f s)) :
    s.Keeps (s.apertureGate r f) :=
  gate_cases (P := s.Keeps) (fun _ a kept => kept.answer a) (.refl s) effect

theorem State.apertureRequest_keeps (s : State) (q : TrunkRequest) : s.Keeps (s.apertureRequest q) := by
  unfold State.apertureRequest
  split
  · unfold State.apertureAccess
    split
    · exact .of_same rfl
    · exact s.apertureGate_keeps _ _ (s.writeWord_keeps ..)
    · exact .of_same rfl
  · exact .of_same rfl

/-! ### Requests -/

/-- 02 R27, R28. -/
theorem State.answerEntry_keeps (s : State) (q : TrunkRequest) {i : Slot} {e : Entry} (slot : s.slots.get i = some e) :
    s.Keeps (s.answerEntry i e q) := by
  unfold State.answerEntry
  split
  · exact .of_same rfl
  · split
    · next phase => exact (State.Keeps.of_same (s.freeEntry_holding slot phase)).answer _
    · exact .of_same rfl

/-- 06 R110. -/
theorem State.lateDeliver_keeps (s : State) (k : Nat) : s.Keeps (s.lateDeliver k) := by
  unfold State.lateDeliver
  split
  · have erased : s.Keeps { s with reclaim.records := s.reclaim.records.eraseIdx k } :=
      .of_items rfl (List.eraseIdx_sublist ..).length_le.trans id id
    exact (erased.trans (State.generate_keeps _ _)).answer _
  · exact .refl s

/-- 02 R30, R31. -/
theorem State.admitDelayed_lawful (s : State) (q : TrunkRequest) (route : Route) : s.Lawful (s.admitDelayed q route) := by
  unfold State.admitDelayed
  split
  · next i taken =>
    unfold State.admissionSlot at taken
    split at taken
    · have free := ((s.freeSlot_eq_some i).mp taken).1
      refine ⟨.inl (by simp), .inr ⟨.entry i, by simp⟩, fun tracked => ?_, fun within => ?_, fun legal => ?_⟩
      · exact tracked.entry_admitted free rfl (by simp; rfl) (by simp) (by simp) (by simp)
      · simpa [State.WithinCapacity] using within
      · exact legal.of_ranges (by simp [State.ranges])
    · simp at taken
  · exact State.Keeps.lawful (.of_same rfl)

/-- 03 R49, R50. -/
theorem State.admitPosted_lawful (s : State) (q : TrunkRequest) (words : List LaneWord) (route : Route) :
    s.Lawful (s.admitPosted q words route) := by
  unfold State.admitPosted
  split
  · next room =>
    refine ⟨.inr ⟨_, State.enqueue_posts (s.appendPost _) _⟩, .inr ⟨.posted, by simp⟩,
      fun tracked => ?_, fun within => ?_, fun legal => ?_⟩
    · exact tracked.posted_admitted (by simp) (State.enqueue_posts (s.appendPost _) _) (by simp) (by simp)
    · obtain ⟨-, records, backlog⟩ := within
      have room : s.posts.length < 16 := room
      exact ⟨by simp; omega, by simpa using records, by simpa using backlog⟩
    · exact legal.of_ranges (by simp [State.ranges])
  · exact State.Keeps.lawful (.of_same rfl)

/-- 08 R144. -/
theorem State.admission_lawful (s : State) (q : TrunkRequest) (w : WindowNo) : s.Lawful (s.admission q w) := by
  simp only [State.admission]
  split
  · exact State.Keeps.lawful (.of_same rfl)
  · split
    · exact s.admitDelayed_lawful q _
    · split
      · exact s.admitPosted_lawful q _ _
      · exact s.admitDelayed_lawful q _

/-- 08 R142 to R144. -/
theorem State.windowRequest_lawful (s : State) (q : TrunkRequest) : s.Lawful (s.windowRequest q) := by
  have answered (a : Answer) : s.Lawful (s.answer a) := State.Keeps.lawful (.of_same rfl)
  unfold State.windowRequest
  split
  · exact answered _
  · split
    · exact answered _
    · split
      · exact ((s.generate_keeps _).answer _).lawful
      · split
        · exact answered _
        · exact s.admission_lawful q _

/-- 08 R138 steps 3 to 9. -/
theorem State.matchOrPass_lawful (s : State) (q : TrunkRequest) : s.Lawful (s.matchOrPass q) := by
  cases found : s.matchLive q with
  | some i =>
    obtain ⟨e, slot, -⟩ := (s.liveKey_eq_some i q.key).mp (s.matchLive_eq_some q i found)
    rw [s.matchOrPass_live q found slot]
    exact (s.answerEntry_keeps q slot).lawful
  | none =>
    rw [s.matchOrPass_pass q found, State.reclaimOrWindow]
    split
    · exact (s.lateDeliver_keeps _).lawful
    · exact s.windowRequest_lawful q

/-- 08 R138: a request through the check sequence. -/
theorem State.present_lawful (s : State) (q : TrunkRequest) : s.Lawful (s.present q) := by
  unfold State.present
  split
  · exact State.Keeps.lawful (.of_same rfl)
  · split
    · exact State.Keeps.lawful (.of_same rfl)
    · split
      · exact (s.apertureRequest_keeps q).lawful
      · exact s.matchOrPass_lawful q

/-! ### Every command -/

/-- A row that has its effect on a condition and else changes nothing. -/
theorem State.lawful_ite {s u : State} {c : Prop} [Decidable c] (effect : s.Keeps u) :
    ∃ t : State, (if c then .next u else .next s : Host.Outcome State Fault Refusal) = .next t ∧ s.Lawful t := by
  split
  · exact ⟨u, rfl, effect.lawful⟩
  · exact ⟨s, rfl, (State.Keeps.refl s).lawful⟩

/-- A row that an aperture write carries. -/
theorem State.lawful_gate (s : State) (r : Requester) (f : State → State) (effect : s.Keeps (f s)) :
    ∃ t : State, (.next (s.apertureGate r f) : Host.Outcome State Fault Refusal) = .next t ∧ s.Lawful t :=
  ⟨_, rfl, (s.apertureGate_keeps r f effect).lawful⟩

/-- 08 R140. -/
theorem execApertureAccessRefused_keeps (q : TrunkRequest) (s : State) :
    ∃ t : State, execApertureAccessRefused q s = .next t ∧ s.Keeps t := by
  unfold execApertureAccessRefused
  split
  · exact ⟨_, rfl, .of_same rfl⟩
  · split <;> exact ⟨_, rfl, .of_same rfl⟩

/-- 09 R160. -/
theorem execHardReset_keeps (cause : HardResetCause) (s : State) :
    ∃ t : State, execHardReset cause s = .next t ∧ s.Keeps t := by
  refine ⟨_, rfl, List.nil_sublist _, List.nil_sublist _, fun _ => State.itemsTracked_of_empty rfl rfl rfl rfl,
    fun _ => Nat.zero_le _, fun _ => Nat.zero_le _, fun _ => ?_⟩
  obtain ⟨-, -, -, legal, -⟩ := resetMeetsEveryLaw
  exact legal.of_ranges rfl

/-- A command that admits nothing whatever it meets. -/
theorem exists_lawful {s : State} {o : Host.Outcome State Fault Refusal} (run : ∃ t : State, o = .next t ∧ s.Keeps t) :
    ∃ t : State, o = .next t ∧ s.Lawful t := by
  obtain ⟨t, took, kept⟩ := run
  exact ⟨t, took, kept.lawful⟩

/-- Whatever the command, the laws hold on. -/
theorem exec_lawful (c : Instr) (s : State) : ∃ t : State, exec c s = .next t ∧ s.Lawful t := by
  cases c with
  | trunkRequest q => exact ⟨_, rfl, s.present_lawful q⟩
  | apertureWrite r offset v => exact ⟨_, rfl, s.present_lawful _⟩
  | apertureAccessRefused q => exact exists_lawful (execApertureAccessRefused_keeps q s)
  | takeHead => exact exists_lawful (execTakeHead_keeps s)
  | branchAck data => exact exists_lawful (execBranchAck_keeps data s)
  | branchErr => exact ⟨_, rfl, (s.endItem_keeps _).lawful⟩
  | handshakeLimitExpiry => exact State.lawful_ite s.expireHandshake_keeps
  | holdExpiry i => exact State.lawful_ite (s.expireHold_keeps i)
  | warmUpExpiry => exact State.lawful_ite (.of_same s.expireWarmUp_holding)
  | recordWrite => exact exists_lawful (execRecordWrite_keeps s)
  | recordWriteDone => exact State.lawful_ite (s.recordDelivered_keeps.trans (State.ringHalf_issueSignal_keeps _))
  | recordWriteWait | signalWriteWait => exact State.lawful_ite (.of_same (s.writeWait_holding _))
  | idleTimerExpiry | recordWriteFault | signalWriteDone | signalWriteFault | hardResetRelease =>
    exact State.lawful_ite (.of_same rfl)
  | abandonedWriteAnswer answer => exact exists_lawful (execAbandonedWriteAnswer_keeps answer s)
  | commit r => exact s.lawful_gate r _ (s.commit_keeps r)
  | revert r | timeSet r => exact s.lawful_gate r _ (.of_same rfl)
  | unfence r argument => exact s.lawful_gate r _ (s.takeCommand_keeps r argument .unfence)
  | flush r => exact s.lawful_gate r _ (s.flush_keeps r)
  | reclaimPop r => exact s.lawful_gate r _ (s.reclaimPop_keeps r)
  | reclaimClear r => exact s.lawful_gate r _ (s.takeCommand_keeps r 0 .reclaimClear)
  | noticeStart r => exact s.lawful_gate r _ (s.noticeStart_keeps r)
  | noticeStop r => exact s.lawful_gate r _ (s.takeCommand_keeps r 0 .noticeStop)
  | park r => exact s.lawful_gate r _ (s.takeCommand_keeps r 0 .park)
  | wake r => exact s.lawful_gate r _ (s.takeCommand_keeps r 0 .wake)
  | branchAbort r => exact s.lawful_gate r _ (s.branchAbort_keeps r)
  | bridgeReset r => exact s.lawful_gate r _ (s.bridgeReset_keeps r)
  | unknownCommand r code => exact s.lawful_gate r _ (s.commandWrite_keeps r code 0)
  | requesterQuotaWrite r v => exact s.lawful_gate r _ (s.writeSetting_keeps r .requesterQuota v)
  | holdLimitWrite r v => exact s.lawful_gate r _ (s.writeSetting_keeps r .holdLimit v)
  | managementWriteMaskWrite r v => exact s.lawful_gate r _ (s.writeSetting_keeps r .writeMask v)
  | warmUpWrite r v => exact s.lawful_gate r _ (s.writeSetting_keeps r .warmUp v)
  | autoParkIntervalWrite r v => exact s.lawful_gate r _ (s.writeSetting_keeps r .autoPark v)
  | noticeConfigurationWrite r field v => exact s.lawful_gate r _ (s.configWrite_keeps r field v)
  | consumerCounterWrite r v => exact s.lawful_gate r _ (s.consumerWrite_keeps r v)
  | hardReset cause => exact exists_lawful (execHardReset_keeps cause s)

/-- Every step is lawful: no law speaks of the queue of commands. -/
theorem step_lawful {s t : State} (h : step s = .next t) : s.Lawful t := by
  rcases step_cases h with ⟨c, queue, run⟩ | rfl
  · obtain ⟨u, took, lawful⟩ := exec_lawful c { s with pending := queue }
    obtain rfl : u = t := by rw [took] at run; injection run
    exact ⟨lawful.posts, lawful.refs, lawful.tracked, lawful.capacity, lawful.settings⟩
  · exact State.Keeps.lawful (.of_same (s.elapse_holding 1))

/-! ### The statements -/

/-- Settles O8: a step either admits an item with its reference, or loses items with theirs. -/
theorem stepKeepsItemsTracked : Obligations.StepKeepsItemsTracked :=
  fun _ _ tracked step => (step_lawful step).tracked tracked

/-- Settles O7: no list gains beyond its places, and no value with a range is taken out of it. -/
theorem stepKeepsCapacitiesAndRanges : Obligations.StepKeepsCapacitiesAndRanges :=
  fun _ _ step => ⟨(step_lawful step).capacity, (step_lawful step).settings⟩

/-- Settles O19: a step that admits nothing takes from the two lists, and an admission appends to them. -/
theorem postsAndReferencesKeepTheirOrder : Obligations.PostsAndReferencesKeepTheirOrder :=
  fun _ _ step => ⟨(step_lawful step).posts, (step_lawful step).refs⟩

end Sys2Proof.Machine

/-! Admission to the post queue. -/

namespace Sys2Proof.Machine

/-- 01 R4: some word of a request has an effective lane in a window. -/
theorem WindowRecord.noEffectiveLane_eq_false (r : WindowRecord) {masks : List Lanes}
    (effective : ∃ m ∈ masks, ∃ j : Nat, (j < 2 ∨ (j < 4 ∧ r.laneModeBits = 1)) ∧ m.getLsbD j = true) :
    noEffectiveLane r.laneMode masks = false := by
  obtain ⟨m, mem, j, carried, selected⟩ := effective
  rw [Bool.eq_false_iff, ne_eq, WindowRecord.noEffectiveLane_iff]
  exact fun ineffective => by simp [ineffective m mem j carried] at selected

/-- 03 R49: a WRITE to a POSTED window is for the post queue. -/
theorem State.admission_posted (s : State) (q : TrunkRequest) (w : WindowNo) {words : List LaneWord}
    (lanes : noEffectiveLane (s.window.active.get w).laneMode q.access.masks = false) (access : q.access = .write words)
    (posted : (s.window.active.get w).writeModeBits = 0) :
    s.admission q w = s.admitPosted q words (s.routeOf w q.address) := by
  rw [← s.snapshot_eq, State.admission, if_neg (by simp [lanes])]
  simp only [access]
  exact if_pos (by simp [WindowRecord.posted, posted])

/-- Settles O32: the request meets the post queue, with a place or full. -/
theorem postedAdmission : Obligations.PostedAdmission := by
  intro s q w words sound reaches effective access posted
  have lanes := (s.window.active.get w).noEffectiveLane_eq_false effective
  rw [s.exec_request_admission q w sound reaches, s.admission_posted q w lanes access posted, State.admitPosted,
    Config.postCapacity]
  refine ⟨fun room => ?_, fun full => ?_⟩
  · rw [if_pos room, State.enqueue_eq]
    rfl
  · rw [if_neg (Nat.not_lt.mpr full)]
    rfl

end Sys2Proof.Machine

/-! The cycle list of an item: its half-words lane by lane, and its bounds. -/

namespace Sys2Proof.Machine

/-! ### The cycle list, half-word by half-word -/

/-- 04 R72: the cycle list word by word. -/
theorem cycleList_eq_flatMap (kind : Kind) (route : Route) (words : List LaneWord) :
    cycleList kind route words =
      words.zipIdx.flatMap fun p => (wordHalves kind route p.2 p.1).filter (·.strobed) := by
  rw [cycleList, List.filter_flatMap]

/-- 04 R73, 01 R4: a half-word is issued when one of its two lanes is effective. -/
theorem filter_halfCycle (kind : Kind) (route : Route) (k : Nat) (w : LaneWord) (upper : Bool) (index : BranchIndex) :
    [halfCycle kind route k w upper index].filter (·.strobed) =
      let low := if upper then 2 else 0
      if w.mask.getLsbD low || w.mask.getLsbD (low + 1) then
        [{ kind := kind, select := route.select, index := index,
           lowStrobe := w.mask.getLsbD low, highStrobe := w.mask.getLsbD (low + 1),
           data := if kind = .read then none else some (w.data.extractLsb' (8 * low) 16), word := k, upper := upper }]
      else [] := by
  cases upper <;> cases kind <;> simp [List.filter_cons, halfCycle, Cycle.strobed]

/-- Settles O35: each word gives the half-words of its lane mode that have a strobe. -/
theorem cycleListFollowsTheLanes : Obligations.CycleListFollowsTheLanes := by
  intro kind route words half
  rw [cycleList_eq_flatMap, List.flatMap_def]
  refine ⟨fun narrow => ?_, fun paired => ?_⟩
  · have word (p : LaneWord × Nat) :
        (wordHalves kind route p.2 p.1).filter (·.strobed) = half p.2 p.1 0 p.2 false := by
      simp only [wordHalves, narrow]
      exact filter_halfCycle kind route p.2 p.1 false _
    simp only [word]
  · have word (p : LaneWord × Nat) :
        (wordHalves kind route p.2 p.1).filter (·.strobed)
          = half p.2 p.1 0 (2 * p.2) false ++ half p.2 p.1 2 (2 * p.2 + 1) true := by
      simp only [wordHalves, paired]
      rw [← List.singleton_append, List.filter_append]
      exact congrArg₂ _ (filter_halfCycle kind route p.2 p.1 false _) (filter_halfCycle kind route p.2 p.1 true _)
    simp only [word]

/-! ### The bounds of a cycle list -/

/-- 04 R72: a word gives at most two half-words. -/
theorem wordHalves_length_le (kind : Kind) (route : Route) (k : Nat) (w : LaneWord) :
    (wordHalves kind route k w).length ≤ 2 := by
  unfold wordHalves
  split <;> simp

/-- 04 R72: at most two cycles for each word. -/
theorem cycleList_length_le (kind : Kind) (route : Route) (words : List LaneWord) :
    (cycleList kind route words).length ≤ 2 * words.length := by
  have sum := List.sum_le_card_nsmul (words.zipIdx.map fun p => (wordHalves kind route p.2 p.1).length) 2 (by
    intro n mem
    obtain ⟨p, -, rfl⟩ := List.mem_map.mp mem
    exact wordHalves_length_le ..)
  refine (List.length_filter_le _ _).trans ?_
  rw [List.length_flatMap]
  simpa [Nat.mul_comm] using sum

/-- 01 R4: an effective lane of a word is the strobe of one of its half-words. -/
theorem exists_strobed_wordHalves {kind : Kind} {route : Route} {k : Nat} {w : LaneWord}
    (effective : effectiveLanes route.laneMode w.mask ≠ 0) : ∃ c ∈ wordHalves kind route k w, c.strobed = true := by
  obtain ⟨j, inside, selected⟩ : ∃ j, j < 4 ∧ (effectiveLanes route.laneMode w.mask).getLsbD j = true := by
    by_contra none
    push Not at none
    exact effective (BitVec.eq_of_getLsbD_eq fun j inside => by simpa using none j inside)
  rw [effectiveLanes, BitVec.getLsbD_and, Bool.and_eq_true, LaneMode.carried_getLsbD] at selected
  obtain ⟨lane, carried⟩ := selected
  have low (j : Nat) (half : j < 2) (lane : w.mask.getLsbD j = true) (index : BranchIndex) :
      (halfCycle kind route k w false index).strobed = true := by
    interval_cases j <;> simp [halfCycle, Cycle.strobed, lane]
  have high (j : Nat) (half : 2 ≤ j) (inside : j < 4) (lane : w.mask.getLsbD j = true) (index : BranchIndex) :
      (halfCycle kind route k w true index).strobed = true := by
    interval_cases j <;> simp [halfCycle, Cycle.strobed, lane]
  unfold wordHalves
  cases mode : route.laneMode with
  | narrow => exact ⟨_, List.mem_singleton_self _, low j (by simpa [mode] using carried) lane _⟩
  | paired =>
    by_cases half : j < 2
    · exact ⟨_, List.mem_cons_self, low j half lane _⟩
    · exact ⟨_, List.mem_cons_of_mem _ (List.mem_singleton_self _), high j (by omega) inside lane _⟩

/-- 04 R72: an item with an effective lane has a cycle. -/
theorem cycleList_ne_nil (kind : Kind) (route : Route) (words : List LaneWord)
    (effective : noEffectiveLane route.laneMode (words.map (·.mask)) = false) : cycleList kind route words ≠ [] := by
  obtain ⟨w, mem, lanes⟩ : ∃ w ∈ words, effectiveLanes route.laneMode w.mask ≠ 0 := by
    simpa [noEffectiveLane] using effective
  obtain ⟨k, place⟩ := List.mem_iff_getElem?.mp mem
  obtain ⟨c, half, strobed⟩ := exists_strobed_wordHalves (kind := kind) (k := k) lanes
  refine List.ne_nil_of_mem (a := c) (List.mem_filter.mpr ⟨List.mem_flatMap.mpr ⟨(w, k), ?_, half⟩, strobed⟩)
  exact List.mk_mem_zipIdx_iff_getElem?.mpr place

/-- 08 R136: the lanes of every word of an access are its masks. -/
theorem Access.laneWords_masks (a : Access) : a.laneWords.map (·.mask) = a.masks := by
  cases a <;> simp [Access.laneWords, Access.masks, Function.comp_def]

/-- 04 R72, 08 R139: an admitted item, of 1 to 8 words with an effective lane, has 1 to 16 cycles. -/
theorem Item.Formed.cycles_bounds {it : Item} (formed : it.Formed) :
    0 < (cycleList it.kind it.route it.request.access.laneWords).length
      ∧ (cycleList it.kind it.route it.request.access.laneWords).length ≤ 16 := by
  obtain ⟨wellFormed, effective⟩ := formed
  have few : it.request.access.count ≤ 8 := by
    simp only [TrunkRequest.malformed, Bool.or_eq_false_iff, decide_eq_false_iff_not] at wellFormed
    omega
  have words : it.request.access.laneWords.length = it.request.access.count := by
    rw [Access.count, ← Access.laneWords_masks, List.length_map]
  refine ⟨List.length_pos_of_ne_nil (cycleList_ne_nil _ _ _ ?_), (cycleList_length_le ..).trans (by omega)⟩
  rw [Access.laneWords_masks]; exact effective

end Sys2Proof.Machine

/-! What one command can do to the items and to the progress of the ACTIVE one. -/

namespace Sys2Proof.Machine

/-! ### Items that stay, come and go -/

/-- What the branch engine works on: the slots, the post queue and the ACTIVE item's progress; and the time base its attempts are
timed by. -/
structure Work where
  slots : Vector (Option Entry) 8
  posts : List PostedWrite
  active : Option Progress
  timeBase : Word

/-- The work a state holds. -/
def State.work (s : State) : Work :=
  { slots := s.slots, posts := s.posts, active := s.branch.active, timeBase := s.mgmt.timeBase }

/-- Every item a later state holds was in its place before, or was admitted. -/
structure State.ItemsFrom (s t : State) : Prop where
  entries : ∀ (i : Slot) (it : Item), t.activeItem (.entry i) = some it → s.activeItem (.entry i) = some it ∨ it.Formed
  posts : ∀ w ∈ t.posts, w ∈ s.posts ∨ w.item.Formed

/-- The items on the Branch keep their places: every ACTIVE or CANCELLED entry, and the post queue head. -/
structure State.BranchHeld (s t : State) : Prop where
  entries : ∀ i : Slot, s.slotOnBranch i = true → t.activeItem (.entry i) = s.activeItem (.entry i)
  posts : s.posts <+: t.posts

/-- 04 R76, 05 R91: the progress of an item with one attempt more: of the next cycle, or of the same one within the allowance. -/
structure Progress.GoesOn (p : Progress) (it : Item) (p' : Progress) : Prop where
  item : p'.item = p.item
  cycles : p'.cycles = p.cycles
  assembly : p'.assembly.length = p.assembly.length
  timer : p'.timer = handshakeStart it.route.limit
  attempt : (p'.cyclesDone = p.cyclesDone + 1 ∧ p'.reissuesUsed = p.reissuesUsed ∧ p.cyclesDone + 1 < p.cycles.length)
    ∨ (p'.cyclesDone = p.cyclesDone ∧ p'.reissuesUsed = p.reissuesUsed + 1 ∧ p.reissuesUsed < it.route.reissueCount.toNat)

/-- Everything one command can do to the items and to the ACTIVE item's progress. -/
inductive State.ItemStep (s t : State) : Prop
  | stays (items : s.ItemsFrom t) (held : s.BranchHeld t) (active : t.branch.active = s.branch.active)
      (clock : t.mgmt.timeBase = s.mgmt.timeBase)
  | timeSet (work : t.work = { s.work with timeBase := t.mgmt.timeBase }) (origin : t.mgmt.result.origin = .command .timeSet)
      (serial : t.mgmt.result.serial = s.mgmt.result.serial + 1)
  | taken (r : Ref) (it : Item) (found : s.takeable = some (r, it)) (items : t.activeItem = s.activeItem)
      (posts : t.posts = s.posts) (active : t.branch.active = some (it.progress r))
  | goesOn (p p' : Progress) (it : Item) (active : s.branch.active = some p) (item : s.activeItem p.item = some it)
      (attempt : p.GoesOn it p') (work : t.work = { s.work with active := some p' })
  | ended (items : s.ItemsFrom t) (inactive : t.branch.active = none)

section
variable {s t u : State}

theorem State.ItemsFrom.of_same (slots : t.slots = s.slots) (posts : t.posts = s.posts) : s.ItemsFrom t :=
  ⟨fun i it item => .inl (by rwa [State.activeItem, ← slots]), fun w mem => .inl (posts ▸ mem)⟩

theorem State.ItemsFrom.refl (s : State) : s.ItemsFrom s := .of_same rfl rfl

theorem State.ItemsFrom.trans (first : s.ItemsFrom t) (second : t.ItemsFrom u) : s.ItemsFrom u where
  entries i it item := (second.entries i it item).elim (first.entries i it) .inr
  posts w mem := (second.posts w mem).elim (first.posts w) .inr

/-- Every slot's entry is removed, or replaced by one of the same item. -/
theorem State.ItemsFrom.of_bind (f : Entry → Option Entry) (item : ∀ e e', f e = some e' → e'.item = e.item)
    (slots : ∀ i : Slot, t.slots.get i = (s.slots.get i).bind f) (posts : t.posts ⊆ s.posts) : s.ItemsFrom t := by
  refine ⟨fun i it held => .inl ?_, fun w mem => .inl (posts mem)⟩
  obtain ⟨e', left, rfl⟩ := Option.map_eq_some_iff.mp held
  rw [slots] at left
  obtain ⟨e, slot, kept⟩ := Option.bind_eq_some_iff.mp left
  simp [State.activeItem, slot, item e e' kept]

/-- One slot takes the entry of an item it held or of one admitted, or becomes FREE. -/
theorem State.ItemsFrom.of_set {i : Slot} {x : Option Entry} (slots : t.slots = s.slots.set i x)
    (item : ∀ e ∈ x, s.activeItem (.entry i) = some e.item ∨ e.item.Formed) (posts : t.posts = s.posts) : s.ItemsFrom t := by
  refine ⟨fun j it held => ?_, fun w mem => .inl (posts ▸ mem)⟩
  rw [State.activeItem, slots, slots_set_get] at held
  split at held
  · next here =>
    obtain ⟨e, mem, rfl⟩ := Option.map_eq_some_iff.mp held
    exact here ▸ item e mem
  · exact .inl held

/-- 09 R159, R160: nothing is held. -/
theorem State.ItemsFrom.of_empty (slots : t.slots = Vector.replicate 8 none) (posts : t.posts = []) : s.ItemsFrom t :=
  .of_bind (fun _ => none) (by simp) (fun i => by rw [slots, noSlots_get]; simp) (by simp [posts])

theorem State.BranchHeld.of_same (slots : t.slots = s.slots) (posts : t.posts = s.posts) : s.BranchHeld t :=
  ⟨fun i _ => by rw [State.activeItem, slots, ← State.activeItem], by rw [posts]⟩

theorem State.ItemStep.of_same (same : t.work = s.work) : s.ItemStep t := by
  simp only [State.work, Work.mk.injEq] at same
  obtain ⟨slots, posts, active, clock⟩ := same
  exact .stays (.of_same slots posts) (.of_same slots posts) active clock

/-- A slot with no item on the Branch becomes FREE, or takes the entry of an admitted item. -/
theorem State.ItemStep.of_set {i : Slot} {x : Option Entry} (off : s.slotOnBranch i = false)
    (formed : ∀ e ∈ x, e.item.Formed) (work : t.work = { s.work with slots := s.slots.set i x }) : s.ItemStep t := by
  simp only [State.work, Work.mk.injEq] at work
  obtain ⟨slots, posts, active, clock⟩ := work
  refine .stays (.of_set slots (fun e mem => .inr (formed e mem)) posts) ⟨fun j on => ?_, by rw [posts]⟩ active clock
  have other : i ≠ j := by rintro rfl; simp [off] at on
  rw [State.activeItem, slots, slots_set_get, if_neg other, State.activeItem]

/-- 08 R137: the answer given is no item. -/
theorem State.ItemStep.answer (step : s.ItemStep t) (a : Answer) : s.ItemStep (t.answer a) := by
  cases step with
  | stays items held active clock => exact .stays ⟨items.entries, items.posts⟩ ⟨held.entries, held.posts⟩ active clock
  | timeSet work origin serial => exact .timeSet work origin serial
  | taken r it found items posts active => exact .taken r it found items posts active
  | goesOn p p' it active item attempt work => exact .goesOn p p' it active item attempt work
  | ended items inactive => exact .ended ⟨items.entries, items.posts⟩ inactive

end

/-! ### Operations that leave the work as it is -/

@[simp] theorem State.settle_work (s t : State) : (State.settle s t).work = t.work := by
  unfold State.settle; split <;> simp [State.work]

@[simp] theorem State.dispose_work (s : State) (e : Entry) (r : Result) : (s.dispose e r).work = s.work := by
  simp [State.work]

@[simp] theorem State.expireWarmUp_work (s : State) : s.expireWarmUp.work = s.work := by
  unfold State.expireWarmUp; split <;> rfl

@[simp] theorem State.ringHalf_work (s : State) : s.ringHalf.work = s.work := by simp [State.work]

@[simp] theorem State.issueSignal_work (s : State) : s.issueSignal.work = s.work := by simp [State.work]

@[simp] theorem State.writeWait_work (s : State) (reason : StallReason) : (s.writeWait reason).work = s.work := by
  simp [State.work]

/-! ### The end of an item -/

/-- 02 R35, R42, 03 R56. -/
theorem State.ownerTakes_itemsFrom (s : State) (r : Ref) (result : Result) : s.ItemsFrom (s.ownerTakes r result) := by
  cases r with
  | posted => exact ⟨fun _ _ => .inl, fun w mem => .inl (List.mem_of_mem_tail mem)⟩
  | entry i =>
    simp only [State.ownerTakes]
    split
    · next e slot =>
      split
      · exact .of_set (s.freeEntry_slots i) (by simp) rfl
      · refine .of_set (s.putEntry_slots i _) (fun e' same => .inl ?_) rfl
        obtain rfl := Option.some.inj same
        simp only [State.activeItem, slot]
        rfl
    · exact .refl s

/-- 05 R96: a purged entry keeps its item. -/
theorem State.purgeEntry_item (s : State) (w : WindowNo) (ep : BitVec 8) (e : Entry) :
    (s.purgeEntry w ep e).item = e.item := by
  unfold State.purgeEntry
  split <;> rfl

/-- 05 R95. -/
theorem State.fenceHandling_itemsFrom (s : State) (it : Item) (index : BranchIndex) :
    s.ItemsFrom (s.fenceHandling it index) := by
  rw [State.fenceHandling_eq]
  refine .of_bind (fun e => some (s.purgeEntry it.route.window it.route.epoch e)) ?_ (fun i => mapSlots_get _ _ i)
    (List.filter_subset_self _)
  rintro e _ ⟨⟩
  exact s.purgeEntry_item _ _ e

/-- 04 R79 steps 3 and 4. -/
theorem State.engineReport_itemsFrom (s : State) (ending : Ending) (it : Item) (p : Progress) (index : BranchIndex) :
    s.ItemsFrom (s.engineReport ending it p index) := by
  cases ending with
  | ok => simp only [State.engineReport]; split <;> exact .of_same rfl rfl
  | device | skipped => exact .of_same rfl rfl
  | fenced => exact s.fenceHandling_itemsFrom it index

/-- 02 R42. -/
theorem State.disposeCancelled_itemsFrom (s : State) (e : Option Entry) (r : Result) :
    s.ItemsFrom (s.disposeCancelled e r) := by
  cases e with
  | none => exact .refl s
  | some e =>
    simp only [State.disposeCancelled]
    split
    · exact .of_same (by simp) (by simp)
    · exact .refl s

/-- 04 R84. -/
theorem State.settle_itemsFrom (s t : State) : t.ItemsFrom (State.settle s t) := by
  obtain ⟨-, slots, posts, -⟩ := State.settle_frame s t
  exact .of_same slots posts

/-- 04 R79: an end brings no item. -/
theorem State.endItem_itemsFrom (s : State) (ending : Ending) : s.ItemsFrom (s.endItem ending) := by
  rcases s.endItem_cases ending with same | ⟨p, it, active, item⟩
  · rw [same]; exact .refl s
  · have withdrawn : s.ItemsFrom { s with branch.active := none } := .of_same rfl rfl
    rw [s.endItem_eq ending active item]
    exact withdrawn.trans <| (State.ownerTakes_itemsFrom ..).trans <| (State.engineReport_itemsFrom ..).trans <|
      (State.disposeCancelled_itemsFrom ..).trans (State.settle_itemsFrom ..)

/-- 04 R79: an end leaves no item ACTIVE. -/
theorem State.endItem_inactive (s : State) (ending : Ending) {p : Progress} {it : Item} (active : s.branch.active = some p)
    (item : s.activeItem p.item = some it) : (s.endItem ending).branch.active = none := by
  rw [s.endItem_eq ending active item, State.settle_active, disposeCancelled_branch, engineReport_active, ownerTakes_branch]

theorem State.endItem_itemStep (s : State) (ending : Ending) : s.ItemStep (s.endItem ending) := by
  rcases s.endItem_cases ending with same | ⟨p, it, active, item⟩
  · rw [same]; exact .of_same rfl
  · exact .ended (s.endItem_itemsFrom ending) (s.endItem_inactive ending active item)

/-! ### The engine's rows -/

/-- 04 R75: the read assembly keeps its words. -/
theorem Progress.assembled_length (p : Progress) (c : Cycle) (data : HalfWord) :
    (p.assembled c data).length = p.assembly.length := by
  unfold Progress.assembled
  split <;> simp

/-- 05 R90. -/
theorem State.expireHandshake_itemStep (s : State) : s.ItemStep s.expireHandshake := by
  unfold State.expireHandshake
  split
  · exact .of_same rfl
  · next p active =>
    split
    · exact .of_same rfl
    · next it item =>
      split
      · next allowed =>
        exact .goesOn p (p.reissued it.route.limit) it active item ⟨rfl, rfl, rfl, rfl, .inr ⟨rfl, rfl, allowed⟩⟩ rfl
      · split <;> exact s.endItem_itemStep _

/-- 04 R69, 02 R34, 03 R54. -/
theorem execTakeHead_itemStep (s : State) : ∃ t : State, execTakeHead s = .next t ∧ s.ItemStep t := by
  unfold execTakeHead
  split
  · next r it found =>
    refine ⟨_, rfl, .taken r it found (funext fun r' => ?_) ?_ rfl⟩
    · cases r with
      | posted => rfl
      | entry i =>
        cases r' with
        | posted => rfl
        | entry j =>
          simp only [State.activeItem, State.markTaken, slots_set_get]
          split
          · next same => rw [← same, Option.map_map]; rfl
          · rfl
    · cases r <;> rfl
  · exact ⟨s, rfl, .of_same rfl⟩

/-- 04 R76: an ACK of a sound item's cycle issues the next or ends the item. -/
theorem execBranchAck_itemStep (data : HalfWord) (s : State) (sound : s.ProgressSound) :
    ∃ t : State, execBranchAck data s = .next t ∧ s.ItemStep t := by
  unfold execBranchAck
  split
  · exact ⟨s, rfl, .of_same rfl⟩
  · next p active =>
    split
    · exact ⟨s, rfl, .of_same rfl⟩
    · next c _ =>
      obtain ⟨-, -, progress⟩ := sound
      obtain ⟨it, item, -⟩ := progress p active
      have limit : s.activeLimit p = it.route.limit := by simp [State.activeLimit, Option.mem_def.mp item]
      dsimp only
      split
      · next more =>
        refine ⟨_, rfl, .goesOn p (p.acked c data (s.activeLimit p)) it active item
          ⟨rfl, rfl, p.assembled_length c data, ?_, .inl ⟨rfl, rfl, more⟩⟩ rfl⟩
        rw [← limit]; rfl
      · have acked : s.ItemsFrom { s with branch.active := some (p.acked c data (s.activeLimit p)) } := .of_same rfl rfl
        exact ⟨_, rfl, .ended (acked.trans (State.endItem_itemsFrom _ _)) (State.endItem_inactive _ _ rfl item)⟩

/-- 02 R24: the slot of a READY entry has no item on the Branch. -/
theorem State.slotOnBranch_of_ready {s : State} {i : Slot} {e : Entry} {r : Result} {hold : Option Nat}
    (slot : s.slots.get i = some e) (phase : e.phase = .ready r hold) : s.slotOnBranch i = false := by
  rw [State.slotOnBranch, slot]
  exact (Entry.settled_of_ready phase).2

/-- 02 R37. -/
theorem State.expireHold_itemStep (s : State) (i : Slot) : s.ItemStep (s.expireHold i) := by
  unfold State.expireHold
  split
  · next e slot =>
    split
    · next r n phase =>
      exact .of_set (State.slotOnBranch_of_ready slot phase) (x := none) (by simp) (State.dispose_work ..)
    · exact .of_same rfl
  · exact .of_same rfl

/-! ### The notice engine -/

theorem execRecordWrite_itemStep (s : State) : ∃ t : State, execRecordWrite s = .next t ∧ s.ItemStep t := by
  unfold execRecordWrite
  split
  · split
    · exact ⟨_, rfl, .of_same rfl⟩
    · exact ⟨s, rfl, .of_same rfl⟩
  · exact ⟨s, rfl, .of_same rfl⟩

/-- 07 R131. -/
theorem State.abandonedDone_work (s : State) (restarted : Bool) : (s.abandonedDone restarted).work = s.work := by
  unfold State.abandonedDone
  split
  · rfl
  · split
    · rfl
    · rw [State.issueSignal_work, State.ringHalf_work]; rfl
  · split <;> rfl

theorem execAbandonedWriteAnswer_itemStep (answer : WriteAnswer) (s : State) :
    ∃ t : State, execAbandonedWriteAnswer answer s = .next t ∧ s.ItemStep t := by
  unfold execAbandonedWriteAnswer
  split
  · split
    · exact ⟨_, rfl, .of_same (s.abandonedDone_work _)⟩
    · exact ⟨_, rfl, .of_same rfl⟩
  · exact ⟨s, rfl, .of_same rfl⟩

/-! ### Aperture writes -/

/-- 02 R40: FLUSH keeps the item of an entry it leaves. -/
theorem Entry.flushed_item {e e' : Entry} (left : e.flushed = some e') : e'.item = e.item := by
  unfold Entry.flushed at left
  split at left <;> cases left <;> rfl

/-- 02 R40: FLUSH leaves every entry on the Branch. -/
theorem Entry.flushed_of_onBranch {e : Entry} (on : e.onBranch = true) : e.flushed.map Entry.item = some e.item := by
  obtain ⟨request, route, phase⟩ := e
  cases phase with
  | active | cancelled => rfl
  | queued | ready => cases on

/-- 02 R40: FLUSH leaves the ACTIVE item its progress. -/
theorem State.flush_itemStep (s : State) (r : Requester) : s.ItemStep (s.flush r) := by
  have told : (s.flush r).work = (s.flushTold r).work := by
    rw [s.flush_eq r]; exact State.settle_work s (s.flushTold r)
  simp only [State.work, Work.mk.injEq] at told
  obtain ⟨slots, posts, active, clock⟩ := told
  have flushed (i : Slot) : (s.flush r).slots.get i = (s.slots.get i).bind Entry.flushed := by
    rw [slots, s.flushTold_get r]
  have kept : (s.flush r).posts = s.posts := posts
  have items : s.ItemsFrom (s.flush r) :=
    .of_bind Entry.flushed (fun _ _ => Entry.flushed_item) flushed (by rw [kept]; exact List.Subset.refl _)
  refine .stays items ⟨fun i on => ?_, by rw [kept]⟩ active clock
  rw [State.activeItem, flushed, State.activeItem]
  unfold State.slotOnBranch at on
  cases slot : s.slots.get i with
  | none => rfl
  | some e => exact Entry.flushed_of_onBranch (by simpa [slot] using on)

/-- 09 R159. -/
theorem State.bridgeReset_itemStep (s : State) (r : Requester) : s.ItemStep (s.bridgeReset r) := by
  rw [s.bridgeReset_eq r]
  exact .ended (.of_empty rfl rfl) rfl

/-- 05 R100. -/
theorem State.branchAbort_itemStep (s : State) (r : Requester) : s.ItemStep (s.branchAbort r) := by
  unfold State.branchAbort
  split
  · rcases s.endItem_cases (.skipped true) with same | ⟨p, it, active, item⟩
    · rw [same]; exact .of_same rfl
    · exact .ended ((s.endItem_itemsFrom _).trans (.of_same rfl rfl)) (s.endItem_inactive _ active item)
  · exact .of_same rfl

theorem State.takeCommand_itemStep (s : State) (r : Requester) (argument : BitVec 8) (c : Command) :
    s.ItemStep (s.takeCommand r argument c) := by
  cases c with
  | commit => simp only [State.takeCommand, State.commit]; split <;> exact .of_same rfl
  | unfence =>
    simp only [State.takeCommand, State.unfence]
    split
    · split <;> exact .of_same rfl
    · exact .of_same rfl
  | flush => exact s.flush_itemStep r
  | reclaimPop => simp only [State.takeCommand, State.reclaimPop]; split <;> exact .of_same rfl
  | noticeStart =>
    simp only [State.takeCommand, State.noticeStart]
    split
    · split
      · exact .of_same rfl
      · split <;> exact .of_same rfl
    · exact .of_same rfl
    · exact .of_same rfl
  | park => simp only [State.takeCommand, State.park]; split <;> exact .of_same rfl
  | wake => simp only [State.takeCommand, State.wake]; split <;> exact .of_same rfl
  | branchAbort => exact s.branchAbort_itemStep r
  | timeSet => exact .timeSet rfl rfl rfl
  | bridgeReset => exact s.bridgeReset_itemStep r
  | revert | reclaimClear | noticeStop => exact .of_same rfl

theorem State.commandWrite_itemStep (s : State) (r : Requester) (code argument : BitVec 8) :
    s.ItemStep (s.commandWrite r code argument) := by
  unfold State.commandWrite
  split
  · exact s.takeCommand_itemStep r argument _
  · exact .of_same rfl

/-- 09 R154: no setting is part of the work. -/
theorem State.writeSetting_work (s : State) (r : Requester) (which : Setting) (v : Word) :
    (s.writeSetting r which v).work = s.work := by
  have setting (inRange : Bool) (taken : State → State) (same : (taken s).work = s.work) :
      (State.settingWrite r inRange taken s).work = s.work := by
    unfold State.settingWrite
    split
    · exact same
    · rfl
  cases which with
  | requesterQuota | holdLimit | writeMask | warmUp => exact setting _ _ rfl
  | autoPark => exact setting _ _ (by split <;> rfl)

theorem State.configWrite_work (s : State) (r : Requester) (field : ConfigField) (v : Word) :
    (s.configWrite r field v).work = s.work := by
  unfold State.configWrite
  split
  · split <;> rfl
  · rfl

theorem State.consumerWrite_work (s : State) (r : Requester) (v : Word) : (s.consumerWrite r v).work = s.work := by
  simp only [State.consumerWrite]
  split <;> rfl

theorem State.writeWord_itemStep (s : State) (r : Requester) (word : ApertureWord) (v : Word) :
    s.ItemStep (s.writeWord r word v) := by
  cases word with
  | setting which => exact .of_same (s.writeSetting_work r which v)
  | command => exact s.commandWrite_itemStep r _ _
  | config field => exact .of_same (s.configWrite_work r field v)
  | consumer => exact .of_same (s.consumerWrite_work r v)
  | _ => exact .of_same rfl

theorem State.apertureGate_itemStep (s : State) (r : Requester) (f : State → State) (effect : s.ItemStep (f s)) :
    s.ItemStep (s.apertureGate r f) :=
  gate_cases (P := s.ItemStep) (fun _ a step => step.answer a) (.of_same rfl) effect

theorem State.apertureRequest_itemStep (s : State) (q : TrunkRequest) : s.ItemStep (s.apertureRequest q) := by
  unfold State.apertureRequest
  split
  · unfold State.apertureAccess
    split
    · exact .of_same rfl
    · exact s.apertureGate_itemStep _ _ (s.writeWord_itemStep ..)
    · exact .of_same rfl
  · exact .of_same rfl

/-! ### Requests -/

/-- 02 R27, R28. -/
theorem State.answerEntry_itemStep (s : State) (q : TrunkRequest) {i : Slot} {e : Entry} (slot : s.slots.get i = some e) :
    s.ItemStep (s.answerEntry i e q) := by
  unfold State.answerEntry
  split
  · exact .of_same rfl
  · split
    · next phase => exact .of_set (State.slotOnBranch_of_ready slot phase) (x := none) (by simp) rfl
    · exact .of_same rfl

/-- 06 R110. -/
theorem State.lateDeliver_itemStep (s : State) (k : Nat) : s.ItemStep (s.lateDeliver k) := by
  unfold State.lateDeliver
  split <;> exact .of_same rfl

/-- 02 R30, R31: what is admitted to the pending table is formed. -/
theorem State.admitDelayed_itemStep (s : State) (q : TrunkRequest) (route : Route)
    (formed : Item.Formed { request := q, route := route }) : s.ItemStep (s.admitDelayed q route) := by
  unfold State.admitDelayed
  split
  · next i taken =>
    unfold State.admissionSlot at taken
    split at taken
    · have free := ((s.freeSlot_eq_some i).mp taken).1
      refine .of_set (i := i) (x := some { request := q, route := route, phase := .queued })
        (by simp [State.slotOnBranch, free]) ?_ (by simp [State.work])
      rintro e ⟨⟩
      exact formed
    · simp at taken
  · exact .of_same rfl

/-- 03 R49, R50: a posted write admitted is formed, and joins behind the head. -/
theorem State.admitPosted_itemStep (s : State) (q : TrunkRequest) (words : List LaneWord) (route : Route)
    (access : q.access = .write words) (formed : Item.Formed { request := q, route := route }) :
    s.ItemStep (s.admitPosted q words route) := by
  unfold State.admitPosted
  split
  · refine .stays ⟨fun i it item => .inl (by simpa [State.activeItem] using item), fun w mem => ?_⟩
      ⟨fun i _ => by simp [State.activeItem], by simp⟩ (by simp) (by simp)
    rw [State.answer_posts, State.enqueue_posts, State.appendPost_posts, List.mem_append, List.mem_singleton] at mem
    rcases mem with old | rfl
    · exact .inl old
    · refine .inr ?_
      rw [PostedWrite.item, ← access]
      exact formed
  · exact .of_same rfl

/-- 08 R144: a well-formed request meets admission with its lanes checked under its own snapshot. -/
theorem State.admission_itemStep (s : State) (q : TrunkRequest) (w : WindowNo) (wellFormed : q.malformed = false) :
    s.ItemStep (s.admission q w) := by
  simp only [State.admission]
  split
  · exact .of_same rfl
  · next effective =>
    have formed : Item.Formed { request := q, route := s.snapshot w q.address } :=
      ⟨wellFormed, by rwa [Bool.not_eq_true] at effective⟩
    split
    · exact s.admitDelayed_itemStep q _ formed
    · next words access =>
      split
      · exact s.admitPosted_itemStep q words _ access formed
      · exact s.admitDelayed_itemStep q _ formed

/-- 08 R142 to R144. -/
theorem State.windowRequest_itemStep (s : State) (q : TrunkRequest) (wellFormed : q.malformed = false) :
    s.ItemStep (s.windowRequest q) := by
  unfold State.windowRequest
  split
  · exact .of_same rfl
  · split
    · exact .of_same rfl
    · split
      · exact .of_same rfl
      · split
        · exact .of_same rfl
        · exact s.admission_itemStep q _ wellFormed

/-- 08 R138 steps 3 to 9. -/
theorem State.matchOrPass_itemStep (s : State) (q : TrunkRequest) (wellFormed : q.malformed = false) :
    s.ItemStep (s.matchOrPass q) := by
  cases found : s.matchLive q with
  | some i =>
    obtain ⟨e, slot, -⟩ := (s.liveKey_eq_some i q.key).mp (s.matchLive_eq_some q i found)
    rw [s.matchOrPass_live q found slot]
    exact s.answerEntry_itemStep q slot
  | none =>
    rw [s.matchOrPass_pass q found, State.reclaimOrWindow]
    split
    · exact s.lateDeliver_itemStep _
    · exact s.windowRequest_itemStep q wellFormed

/-- 08 R138: a request through the check sequence. -/
theorem State.present_itemStep (s : State) (q : TrunkRequest) : s.ItemStep (s.present q) := by
  unfold State.present
  split
  · exact .of_same rfl
  · split
    · exact .of_same rfl
    · next wellFormed =>
      split
      · exact s.apertureRequest_itemStep q
      · exact s.matchOrPass_itemStep q (by rwa [Bool.not_eq_true] at wellFormed)

/-! ### Every command -/

/-- A row that has its effect on a condition and else changes nothing. -/
theorem State.itemStep_ite {s u : State} {c : Prop} [Decidable c] (effect : s.ItemStep u) :
    ∃ t : State, (if c then .next u else .next s : Host.Outcome State Fault Refusal) = .next t ∧ s.ItemStep t := by
  split
  · exact ⟨u, rfl, effect⟩
  · exact ⟨s, rfl, .of_same rfl⟩

/-- A row that an aperture write carries. -/
theorem State.itemStep_gate (s : State) (r : Requester) (f : State → State) (effect : s.ItemStep (f s)) :
    ∃ t : State, (.next (s.apertureGate r f) : Host.Outcome State Fault Refusal) = .next t ∧ s.ItemStep t :=
  ⟨_, rfl, s.apertureGate_itemStep r f effect⟩

/-- 08 R140. -/
theorem execApertureAccessRefused_itemStep (q : TrunkRequest) (s : State) :
    ∃ t : State, execApertureAccessRefused q s = .next t ∧ s.ItemStep t := by
  unfold execApertureAccessRefused
  split
  · exact ⟨_, rfl, .of_same rfl⟩
  · split <;> exact ⟨_, rfl, .of_same rfl⟩

/-- Whatever the command, with the ACTIVE item sound, the items change in one of the ways of `State.ItemStep`. -/
theorem exec_itemStep (c : Instr) (s : State) (sound : s.ProgressSound) :
    ∃ t : State, exec c s = .next t ∧ s.ItemStep t := by
  cases c with
  | trunkRequest q => exact ⟨_, rfl, s.present_itemStep q⟩
  | apertureWrite r offset v => exact ⟨_, rfl, s.present_itemStep _⟩
  | apertureAccessRefused q => exact execApertureAccessRefused_itemStep q s
  | takeHead => exact execTakeHead_itemStep s
  | branchAck data => exact execBranchAck_itemStep data s sound
  | branchErr => exact ⟨_, rfl, s.endItem_itemStep _⟩
  | handshakeLimitExpiry => exact State.itemStep_ite s.expireHandshake_itemStep
  | holdExpiry i => exact State.itemStep_ite (s.expireHold_itemStep i)
  | warmUpExpiry => exact State.itemStep_ite (.of_same s.expireWarmUp_work)
  | recordWrite => exact execRecordWrite_itemStep s
  | recordWriteDone =>
    exact State.itemStep_ite (.of_same ((State.issueSignal_work _).trans (s.recordDelivered.ringHalf_work)))
  | recordWriteWait | signalWriteWait => exact State.itemStep_ite (.of_same (s.writeWait_work _))
  | idleTimerExpiry | recordWriteFault | signalWriteDone | signalWriteFault | hardResetRelease =>
    exact State.itemStep_ite (.of_same rfl)
  | abandonedWriteAnswer answer => exact execAbandonedWriteAnswer_itemStep answer s
  | commit r => exact s.itemStep_gate r _ (s.takeCommand_itemStep r 0 .commit)
  | revert r => exact s.itemStep_gate r _ (s.takeCommand_itemStep r 0 .revert)
  | unfence r argument => exact s.itemStep_gate r _ (s.takeCommand_itemStep r argument .unfence)
  | flush r => exact s.itemStep_gate r _ (s.flush_itemStep r)
  | reclaimPop r => exact s.itemStep_gate r _ (s.takeCommand_itemStep r 0 .reclaimPop)
  | reclaimClear r => exact s.itemStep_gate r _ (s.takeCommand_itemStep r 0 .reclaimClear)
  | noticeStart r => exact s.itemStep_gate r _ (s.takeCommand_itemStep r 0 .noticeStart)
  | noticeStop r => exact s.itemStep_gate r _ (s.takeCommand_itemStep r 0 .noticeStop)
  | park r => exact s.itemStep_gate r _ (s.takeCommand_itemStep r 0 .park)
  | wake r => exact s.itemStep_gate r _ (s.takeCommand_itemStep r 0 .wake)
  | branchAbort r => exact s.itemStep_gate r _ (s.branchAbort_itemStep r)
  | timeSet r => exact s.itemStep_gate r _ (s.takeCommand_itemStep r 0 .timeSet)
  | bridgeReset r => exact s.itemStep_gate r _ (s.bridgeReset_itemStep r)
  | unknownCommand r code => exact s.itemStep_gate r _ (s.commandWrite_itemStep r code 0)
  | requesterQuotaWrite r v => exact s.itemStep_gate r _ (.of_same (s.writeSetting_work r .requesterQuota v))
  | holdLimitWrite r v => exact s.itemStep_gate r _ (.of_same (s.writeSetting_work r .holdLimit v))
  | managementWriteMaskWrite r v => exact s.itemStep_gate r _ (.of_same (s.writeSetting_work r .writeMask v))
  | warmUpWrite r v => exact s.itemStep_gate r _ (.of_same (s.writeSetting_work r .warmUp v))
  | autoParkIntervalWrite r v => exact s.itemStep_gate r _ (.of_same (s.writeSetting_work r .autoPark v))
  | noticeConfigurationWrite r field v => exact s.itemStep_gate r _ (.of_same (s.configWrite_work r field v))
  | consumerCounterWrite r v => exact s.itemStep_gate r _ (.of_same (s.consumerWrite_work r v))
  | hardReset cause => exact ⟨_, rfl, .ended (.of_empty rfl rfl) rfl⟩

end Sys2Proof.Machine

/-! The law on the ACTIVE item's progress, and the bounds of lists, attempts and their time. -/

namespace Sys2Proof.Machine

/-! ### Progress that fits its item -/

/-- 05 R88, R89: an attempt's timer runs unless the limit is HOLD, and starts at the limit. -/
theorem handshakeStart_isSome (limit : BitVec 12) : (handshakeStart limit).isSome ↔ limit ≠ 0 := by
  unfold handshakeStart
  split
  · next hold => simp [hold]
  · next timed => simpa using timed

theorem le_of_mem_handshakeStart {limit : BitVec 12} {n : Nat} (mem : n ∈ handshakeStart limit) : n ≤ limit.toNat := by
  unfold handshakeStart at mem
  split at mem
  · cases mem
  · exact (Option.some.inj mem).ge

/-- 05 R88: an attempt that is timed starts at its limit. -/
theorem handshakeStart_of_ne_zero {limit : BitVec 12} (timed : limit ≠ 0) : handshakeStart limit = some limit.toNat :=
  if_neg timed

/-- 04 R70, R74: the progress of an admitted item at its take. -/
theorem Item.Formed.progress_fits {it : Item} (formed : it.Formed) (r : Ref) : (it.progress r).FitsItem it :=
  ⟨rfl, formed.cycles_bounds.1, Nat.zero_le _, List.length_map _, handshakeStart_isSome _,
    fun _ => le_of_mem_handshakeStart⟩

/-- 04 R76, 05 R91: one attempt more keeps the progress in its item's bounds. -/
theorem Progress.GoesOn.fits {p p' : Progress} {it : Item} (on : p.GoesOn it p') (fits : p.FitsItem it) :
    p'.FitsItem it := by
  obtain ⟨-, cycles, assembly, timer, attempt⟩ := on
  obtain ⟨own, outstanding, allowed, words, -⟩ := fits
  rw [Progress.FitsItem, cycles, assembly, timer]
  refine ⟨own, ?_, ?_, words, handshakeStart_isSome _, fun _ => le_of_mem_handshakeStart⟩
  · rcases attempt with ⟨done, -, more⟩ | ⟨done, -⟩ <;> omega
  · rcases attempt with ⟨-, used, -⟩ | ⟨-, used, more⟩ <;> omega

/-- 05 R88: the handshake timer falls. -/
theorem Progress.FitsItem.elapse {p : Progress} {it : Item} (fits : p.FitsItem it) (n : Nat) :
    Progress.FitsItem { p with timer := p.timer.map (· - n) } it := by
  obtain ⟨own, outstanding, allowed, words, timed, limit⟩ := fits
  refine ⟨own, outstanding, allowed, words, by simpa using timed, fun m mem => ?_⟩
  obtain ⟨k, running, rfl⟩ := Option.map_eq_some_iff.mp mem
  exact (Nat.sub_le _ _).trans (limit k running)

/-! ### The law on the progress -/

section
variable {s t : State}

/-- 02 R30, 03 R49: every item held was formed before or is formed at its admission. -/
theorem State.ItemsFrom.formed (items : s.ItemsFrom t) (sound : s.ProgressSound) :
    (∀ i : Slot, ∀ e ∈ t.slots.get i, e.item.Formed) ∧ ∀ w ∈ t.posts, w.item.Formed := by
  obtain ⟨entries, posts, -⟩ := sound
  refine ⟨fun i e mem => ?_, fun w mem => (items.posts w mem).elim (posts w) id⟩
  rcases items.entries i e.item (Option.map_eq_some_iff.mpr ⟨e, mem, rfl⟩) with held | formed
  · obtain ⟨e', slot, same⟩ := Option.map_eq_some_iff.mp held
    exact same ▸ entries i e' slot
  · exact formed

/-- 04 R66: while the items on the Branch keep their places, the ACTIVE one does. -/
theorem State.BranchHeld.activeItem (held : s.BranchHeld t) (tracked : s.ItemsTracked) {p : Progress} {it : Item}
    (active : s.branch.active = some p) (item : s.activeItem p.item = some it) : t.activeItem p.item = some it := by
  obtain ⟨-, -, running, -⟩ := tracked
  cases own : p.item with
  | entry i =>
    rw [held.entries i ((running i).mp (by rw [State.activeRef, active, Option.map_some, own])), ← own, item]
  | posted =>
    rw [own] at item
    obtain ⟨w, head, same⟩ := Option.map_eq_some_iff.mp item
    obtain ⟨others, appended⟩ := held.posts
    rw [State.activeItem, ← appended, List.head?_append, head, ← same]
    rfl

/-- 04 R69: the item taken is the one that waited. -/
theorem State.activeItem_of_takeable {r : Ref} {it : Item} (found : s.takeable = some (r, it)) :
    s.activeItem r = some it := by
  have waiting := State.waitingItem_of_takeable found
  cases r with
  | posted => exact waiting
  | entry i =>
    obtain ⟨e, slot, queued⟩ := Option.bind_eq_some_iff.mp waiting
    split at queued
    · rw [← queued, State.activeItem, slot]; rfl
    · cases queued

/-- 04 R70: an item under a reference is formed. -/
theorem State.ProgressSound.formed_of_activeItem (sound : s.ProgressSound) {r : Ref} {it : Item}
    (item : s.activeItem r = some it) : it.Formed := by
  obtain ⟨entries, posts, -⟩ := sound
  cases r with
  | entry i =>
    obtain ⟨e, slot, rfl⟩ := Option.map_eq_some_iff.mp item
    exact entries i e slot
  | posted =>
    obtain ⟨w, head, rfl⟩ := Option.map_eq_some_iff.mp item
    exact posts w (List.mem_of_mem_head? head)

/-- The item under a reference rests on the slots and the post queue. -/
theorem State.activeItem_congr (slots : t.slots = s.slots) (posts : t.posts = s.posts) : t.activeItem = s.activeItem := by
  funext r
  cases r <;> simp only [State.activeItem, slots, posts]

/-- Each way the items can change brings none but an admitted one. -/
theorem State.ItemStep.itemsFrom (step : s.ItemStep t) : s.ItemsFrom t := by
  cases step with
  | stays items => exact items
  | timeSet work => exact .of_same (congrArg Work.slots work) (congrArg Work.posts work)
  | taken r it found items posts => exact ⟨fun i it item => .inl (by rwa [← items]), fun w mem => .inl (posts ▸ mem)⟩
  | goesOn p p' it active item attempt work => exact .of_same (congrArg Work.slots work) (congrArg Work.posts work)
  | ended items => exact items

/-- 04 R70: each way the items can change leaves the ACTIVE item with progress that fits it. -/
theorem State.ItemStep.progress (step : s.ItemStep t) (tracked : s.ItemsTracked) (sound : s.ProgressSound) :
    ∀ p ∈ t.branch.active, ∃ it ∈ t.activeItem p.item, p.FitsItem it := by
  have ⟨_, _, progress⟩ := sound
  intro p running
  cases step with
  | stays _ held active =>
    rw [active] at running
    obtain ⟨it, item, fits⟩ := progress p running
    exact ⟨it, held.activeItem tracked running item, fits⟩
  | timeSet work =>
    rw [show t.branch.active = s.branch.active from congrArg Work.active work] at running
    rw [State.activeItem_congr (congrArg Work.slots work) (congrArg Work.posts work)]
    exact progress p running
  | taken r it found items _ active =>
    obtain rfl : it.progress r = p := Option.some.inj (active.symm.trans running)
    have item := State.activeItem_of_takeable found
    exact ⟨it, by rw [items]; exact item, (sound.formed_of_activeItem item).progress_fits r⟩
  | goesOn q q' it active item attempt work =>
    obtain rfl : q' = p := Option.some.inj ((congrArg Work.active work).symm.trans running)
    obtain ⟨it', item', fits⟩ := progress q active
    obtain rfl : it = it' := Option.some.inj (item.symm.trans item')
    rw [State.activeItem_congr (congrArg Work.slots work) (congrArg Work.posts work), attempt.item]
    exact ⟨it, item, attempt.fits fits⟩
  | ended _ inactive =>
    rw [inactive] at running
    cases running

/-- 04 R70: each way the items can change keeps the law on the progress. -/
theorem State.ItemStep.progressSound (step : s.ItemStep t) (tracked : s.ItemsTracked) (sound : s.ProgressSound) :
    t.ProgressSound :=
  have ⟨entries, posts⟩ := step.itemsFrom.formed sound
  ⟨entries, posts, step.progress tracked sound⟩

/-- 02 R35: time changes no entry's item. -/
theorem Entry.elapse_item (e : Entry) (n : Nat) : (e.elapse n).item = e.item := by
  unfold Entry.elapse
  split <;> rfl

/-- 09 R156: time changes no item. -/
theorem State.elapse_activeItem (s : State) (n : Nat) : (s.elapse n).activeItem = s.activeItem := by
  cases held : s.port.held with
  | true => rw [s.elapse_held n held]
  | false =>
    funext r
    cases r with
    | posted => rw [State.activeItem, State.elapse_posts, State.activeItem]
    | entry i =>
      rw [State.activeItem, s.elapse_get n held, Option.map_map, State.activeItem]
      exact congrArg (Option.map · _) (funext fun e => e.elapse_item n)

/-- 05 R88: the ACTIVE item's timer after time out of hard reset. -/
theorem State.elapse_active (s : State) (n : Nat) (out : s.port.held = false) :
    (s.elapse n).branch.active = s.branch.active.map fun p => { p with timer := p.timer.map (· - n) } := by
  obtain ⟨-, active, -⟩ := s.elapse_running n out
  exact active

/-- 04 R70, 05 R88: time keeps the law on the progress. -/
theorem State.ProgressSound.elapse (sound : s.ProgressSound) (n : Nat) : (s.elapse n).ProgressSound := by
  have items : s.ItemsFrom (s.elapse n) :=
    ⟨fun i it item => .inl (by rwa [State.elapse_activeItem] at item),
      fun w mem => .inl (by rwa [State.elapse_posts] at mem)⟩
  obtain ⟨entries, posts⟩ := items.formed sound
  refine ⟨entries, posts, fun p running => ?_⟩
  rw [State.elapse_activeItem]
  have ⟨_, _, progress⟩ := sound
  cases held : s.port.held with
  | true => rw [s.elapse_held n held] at running; exact progress p running
  | false =>
    rw [s.elapse_active n held] at running
    obtain ⟨q, active, rfl⟩ := Option.map_eq_some_iff.mp running
    obtain ⟨it, item, fits⟩ := progress q active
    exact ⟨it, item, fits.elapse n⟩

end

/-- Settles O9: each way a command can change the items keeps the law, and so does the passing of time. -/
theorem stepKeepsProgressSound : Obligations.StepKeepsProgressSound := by
  intro s t tracked sound step
  rcases step_cases step with ⟨c, queue, run⟩ | rfl
  · obtain ⟨u, took, change⟩ := exec_itemStep c { s with pending := queue } sound
    obtain rfl : u = t := by rw [took] at run; injection run
    exact change.progressSound tracked sound
  · exact sound.elapse 1

end Sys2Proof.Machine

/-! The bounds of the issue order list, of the attempts of an item, and of their time. -/

namespace Sys2Proof.Machine

/-! ### The issue order list -/

section
variable {s t : State}

/-- 04 R66: the references of entries are at most as many as the slots. -/
theorem State.ItemsTracked.entryRefs_le (tracked : s.ItemsTracked) :
    (s.branch.issueOrder.filter (· != .posted)).length ≤ 8 := by
  obtain ⟨once, -⟩ := tracked
  have named : s.branch.issueOrder.filter (· != .posted) ⊆ (List.finRange 8).map .entry := by
    intro r mem
    cases r with
    | entry i => exact List.mem_map_of_mem (List.mem_finRange i)
    | posted => simp at mem
  simpa using (once.subperm named).length_le

/-- 04 R66: one reference for each QUEUED entry and each waiting write. -/
theorem State.ItemsTracked.issueOrder_length_le (tracked : s.ItemsTracked) (capacity : s.WithinCapacity) :
    s.branch.issueOrder.length ≤ 24 := by
  have entries := tracked.entryRefs_le
  obtain ⟨-, -, -, count⟩ := tracked
  obtain ⟨posts, -⟩ := capacity
  have parts : s.branch.issueOrder.length
      = s.branch.issueOrder.count .posted + (s.branch.issueOrder.filter (· != .posted)).length := by
    rw [List.count, List.countP_eq_length_filter]
    exact (List.length_eq_length_filter_add _)
  omega

/-! ### Attempts and their time -/

/-- 05 R105: an ACTIVE item has a cycle to do, within its allowance. -/
theorem Progress.FitsItem.attempts_lt {p : Progress} {it : Item} (fits : p.FitsItem it) :
    p.cyclesDone + p.reissuesUsed < p.cycles.length + it.route.reissueCount.toNat := by
  obtain ⟨-, outstanding, allowed, -⟩ := fits
  omega

/-- 05 R88: an item that is timed has a limit other than HOLD. -/
theorem Progress.FitsItem.limit_ne_zero {p : Progress} {it : Item} (fits : p.FitsItem it) {left : Nat}
    (timer : p.timer = some left) : it.route.limit ≠ 0 := by
  obtain ⟨-, -, -, -, timed, -⟩ := fits
  exact timed.mp (by rw [timer]; rfl)

/-- 05 R105: an attempt with some time left, and what the item's progress is after a step that leaves it ACTIVE: some of that time
has passed by the time base, unless TIME_SET wrote it, and the attempt goes on with the rest of its time, or another one starts. -/
def State.AttemptStep (s t : State) (p p' : Progress) (left : Nat) : Prop :=
  p'.item = p.item ∧ p'.cycles = p.cycles
    ∧ ∃ passed : Nat, passed ≤ left
        ∧ (t.mgmt.timeBase = s.mgmt.timeBase + BitVec.ofNat 32 passed
            ∨ (passed = 0 ∧ t.mgmt.result.origin = .command .timeSet
                ∧ t.mgmt.result.serial = s.mgmt.result.serial + 1))
        ∧ ((p'.cyclesDone = p.cyclesDone ∧ p'.reissuesUsed = p.reissuesUsed ∧ p'.timer = some (left - passed))
            ∨ (passed = 0 ∧ p'.cyclesDone + p'.reissuesUsed = p.cyclesDone + p.reissuesUsed + 1
                ∧ ∃ it ∈ s.activeItem p.item, p'.timer = some it.route.limit.toNat))

/-- An attempt that goes on in no time. -/
theorem State.AttemptStep.of_same {p : Progress} {left : Nat} (timer : p.timer = some left)
    (clock : t.mgmt.timeBase = s.mgmt.timeBase
      ∨ (t.mgmt.result.origin = .command .timeSet ∧ t.mgmt.result.serial = s.mgmt.result.serial + 1)) :
    s.AttemptStep t p p left :=
  ⟨rfl, rfl, 0, Nat.zero_le _, clock.imp (fun same => by simp [same]) fun set => ⟨rfl, set⟩, .inl ⟨rfl, rfl, timer⟩⟩

/-- 05 R105: a command takes no time, and gives an item that stays ACTIVE at most one attempt more. -/
theorem State.ItemStep.attempt (step : s.ItemStep t) (sound : s.ProgressSound) {p p' : Progress} {left : Nat}
    (active : s.branch.active = some p) (timer : p.timer = some left) (active' : t.branch.active = some p') :
    s.AttemptStep t p p' left := by
  cases step with
  | stays _ _ same clock =>
    obtain rfl : p = p' := Option.some.inj (active.symm.trans (same.symm.trans active'))
    exact .of_same timer (.inl clock)
  | timeSet work origin serial =>
    obtain rfl : p = p' := Option.some.inj (active.symm.trans ((congrArg Work.active work).symm.trans active'))
    exact .of_same timer (.inr ⟨origin, serial⟩)
  | taken r it found =>
    obtain ⟨inactive, -⟩ := State.head_of_takeable found
    rw [inactive] at active
    cases active
  | goesOn q q' it activeQ item attempt work =>
    obtain rfl : p = q := Option.some.inj (active.symm.trans activeQ)
    obtain rfl : q' = p' := Option.some.inj ((congrArg Work.active work).symm.trans active')
    obtain ⟨-, -, progress⟩ := sound
    obtain ⟨it', item', fits⟩ := progress p active
    obtain rfl : it = it' := Option.some.inj (item.symm.trans item')
    have clock : t.mgmt.timeBase = s.mgmt.timeBase := congrArg Work.timeBase work
    have restarted : q'.timer = some it.route.limit.toNat :=
      attempt.timer.trans (handshakeStart_of_ne_zero (fits.limit_ne_zero timer))
    have more : q'.cyclesDone + q'.reissuesUsed = p.cyclesDone + p.reissuesUsed + 1 := by
      rcases attempt.attempt with ⟨done, used, -⟩ | ⟨done, used, -⟩ <;> omega
    exact ⟨attempt.item, attempt.cycles, 0, Nat.zero_le _, .inl (by simp [clock]), .inr ⟨rfl, more, it, item, restarted⟩⟩
  | ended _ inactive =>
    rw [inactive] at active'
    cases active'

/-- 05 R88, R105: a microsecond passes only while the attempt has time left. -/
theorem State.elapse_attempt (quiet : s.ownEvent = none) {p p' : Progress} {left : Nat} (active : s.branch.active = some p)
    (timer : p.timer = some left) (active' : (s.elapse 1).branch.active = some p') :
    s.AttemptStep (s.elapse 1) p p' left := by
  cases held : s.port.held with
  | true =>
    rw [s.elapse_held 1 held] at active' ⊢
    obtain rfl : p = p' := Option.some.inj (active.symm.trans active')
    exact .of_same timer (.inl rfl)
  | false =>
    have remains : left ≠ 0 := by
      rintro rfl
      exact s.not_timerDue_of_ownEvent_eq_none quiet (.inl ⟨p, active, timer⟩)
    rw [s.elapse_active 1 held, active, Option.map_some] at active'
    obtain rfl := Option.some.inj active'
    obtain ⟨mgmt, -⟩ := s.elapse_running 1 held
    refine ⟨rfl, rfl, 1, by omega, .inl (by rw [mgmt]), .inl ⟨rfl, rfl, ?_⟩⟩
    rw [timer, Option.map_some]

/-- A step takes a command, or, with nothing due, lets a microsecond pass. -/
theorem step_command_or_quiet (h : step s = .next t) :
    (∃ (c : Instr) (queue : List Instr), exec c { s with pending := queue } = .next t) ∨ (t = s.elapse 1 ∧ s.ownEvent = none) := by
  cases own : s.ownEvent with
  | none => exact (step_cases h).imp_right fun same => ⟨same, rfl⟩
  | some c =>
    refine .inl ?_
    cases pending : s.pending with
    | cons front rest => exact ⟨front, rest, by rw [← step_cons s front rest pending]; exact h⟩
    | nil => exact ⟨c, s.pending, by rw [← step_own s c pending own]; exact h⟩

end

/-- Settles O14: from one reference for each item, from the cycles and the progress of a formed item, and from what a step does to
an attempt. -/
theorem listsStayWithinTheirBounds : Obligations.ListsStayWithinTheirBounds := by
  refine ⟨fun s tracked capacity => tracked.issueOrder_length_le capacity, fun it formed => ?cycles,
    fun s sound p active => ?attempts, fun s t p p' left _ sound step active timer active' => ?time⟩
  case cycles =>
    obtain ⟨some_, few⟩ := formed.cycles_bounds
    exact ⟨some_, few, fun c mem => by simpa [Cycle.strobed] using (List.mem_filter.mp mem).2⟩
  case attempts =>
    obtain ⟨-, -, progress⟩ := sound
    obtain ⟨it, item, fits⟩ := progress p active
    exact ⟨it, item, fits.attempts_lt⟩
  case time =>
    rcases step_command_or_quiet step with ⟨c, queue, run⟩ | ⟨rfl, quiet⟩
    · obtain ⟨u, took, change⟩ := exec_itemStep c { s with pending := queue } sound
      obtain rfl : u = t := by rw [took] at run; injection run
      exact change.attempt sound active timer active'
    · exact State.elapse_attempt quiet active timer active'

end Sys2Proof.Machine

/-! The ACK of a cycle that is not the last, reissue, and ERR. -/

namespace Sys2Proof.Machine

/-! ### The bytes of an ACK -/

/-- 04 R65: the strobe of byte j of a cycle's half-word. -/
def Cycle.strobe (c : Cycle) (j : Nat) : Bool := if j = 0 then c.lowStrobe else c.highStrobe

/-- 04 R65: the strobed bytes of a half-word, bit by bit. -/
theorem Cycle.strobes_getLsbD (c : Cycle) {n : Nat} (inside : n < 16) :
    (byteOf c.highStrobe ++ byteOf c.lowStrobe).getLsbD n = c.strobe (n / 8) := by
  rw [BitVec.getLsbD_append, byteOf_getLsbD, byteOf_getLsbD, Cycle.strobe]
  by_cases low : n < 8
  · simp [low, show n / 8 = 0 by omega]
  · simp [low, show n / 8 ≠ 0 by omega, show n - 8 < 8 by omega]

/-- 04 R72: the place of a half-word in the word that gives it. -/
theorem placedHalf_getLsbD (upper : Bool) (x : HalfWord) {n : Nat} (inside : n < 32) :
    (x.setWidth 32 <<< (if upper then 16 else 0)).getLsbD n = (decide (n / 16 = upper.toNat) && x.getLsbD (n % 16)) := by
  cases upper with
  | false =>
    by_cases low : n < 16
    · simp [inside, low, Nat.mod_eq_of_lt low]
    · simp [x.getLsbD_of_ge n (by omega), low]
  | true =>
    by_cases low : n < 16
    · simp [low, show ¬n / 16 = 1 by omega]
    · simp [inside, low, show n / 16 = 1 by omega, show n % 16 = n - 16 by omega]

/-- 04 R75: a bit of a word is that of the ACK's data where its byte is strobed, and stays elsewhere. -/
theorem placeRead_getLsbD (c : Cycle) (data : HalfWord) (w : Word) {n : Nat} (inside : n < 32) :
    (placeRead c data w).getLsbD n =
      if n / 16 = c.upper.toNat ∧ c.strobe (n / 8 % 2) = true then data.getLsbD (n % 16) else w.getLsbD n := by
  have strobe := c.strobes_getLsbD (n := n % 16) (by omega)
  rw [show n % 16 / 8 = n / 8 % 2 by omega] at strobe
  simp only [placeRead, BitVec.getLsbD_or, BitVec.getLsbD_and, BitVec.getLsbD_not, inside,
    placedHalf_getLsbD c.upper _ inside, strobe]
  by_cases half : n / 16 = c.upper.toNat
  · cases c.strobe (n / 8 % 2) <;> simp [half]
  · simp [half]

/-- 04 R75: byte by byte. -/
theorem placeRead_byte (c : Cycle) (data : HalfWord) (w : Word) {j : Nat} (lane : j < 4) :
    (placeRead c data w).extractLsb' (8 * j) 8 =
      if j / 2 = c.upper.toNat ∧ c.strobe (j % 2) = true then data.extractLsb' (8 * (j % 2)) 8
      else w.extractLsb' (8 * j) 8 := by
  refine BitVec.eq_of_getLsbD_eq fun b bit => ?_
  rw [BitVec.getLsbD_extractLsb', placeRead_getLsbD c data w (by omega), show (8 * j + b) / 16 = j / 2 by omega,
    show (8 * j + b) / 8 % 2 = j % 2 by omega, show (8 * j + b) % 16 = 8 * (j % 2) + b by omega]
  split <;> simp [BitVec.getLsbD_extractLsb']

/-- 04 R75: an ACK of a READ cycle changes the word that gave the half-word, and no other. -/
theorem Progress.assembled_getD {p : Progress} {c : Cycle} (read : c.kind = .read) (data : HalfWord) {k : Nat}
    (inside : k < p.assembly.length) :
    (p.assembled c data).getD k 0 =
      if k = c.word then placeRead c data (p.assembly.getD k 0) else p.assembly.getD k 0 := by
  simp only [Progress.assembled, read, List.getD_eq_getElem?_getD, List.getElem?_modify, List.getElem?_eq_getElem inside]
  by_cases own : c.word = k
  · simp [own]
  · simp [own, Ne.symm own]

/-! ### The next attempt -/

section
variable {s : State} {p : Progress} {c : Cycle} {it : Item}

/-- 04 R76: the ACK of a cycle that is not the last. -/
theorem State.exec_ack_more (data : HalfWord) (onBranch : s.OnBranch p.item p c) (item : s.activeItem p.item = some it)
    (more : p.cyclesDone + 1 < p.cycles.length) :
    exec (.branchAck data) s = .next { s with branch.active := some (p.acked c data it.route.limit) } := by
  obtain ⟨active, -, outstanding⟩ := onBranch
  have limit : s.activeLimit p = it.route.limit := by simp [State.activeLimit, item]
  simp only [exec, execBranchAck, active, Progress.outstanding, outstanding, limit, if_pos more]

/-- 05 R90, R91: an expiry with reissues left. -/
theorem State.exec_expiry_reissue (active : s.branch.active = some p) (item : s.activeItem p.item = some it)
    (timer : p.timer = some 0) (allowed : p.reissuesUsed < it.route.reissueCount.toNat) :
    exec .handshakeLimitExpiry s = .next { s with branch.active := some (p.reissued it.route.limit) } := by
  have due : s.handshakeRemaining = some 0 := by rw [State.handshakeRemaining, active]; exact timer
  rw [exec, execHandshakeLimitExpiry, if_pos due]
  simp only [State.expireHandshake, active, item, if_pos allowed]

end

/-- Settles O36: by the progress with one attempt more, and the assembly byte by byte. -/
theorem ackOrReissueCarriesTheItemOn : Obligations.AckOrReissueCarriesTheItemOn := by
  refine ⟨fun s data ref p c it onBranch item more => ?ack,
    fun s p c it onBranch item timer allowed => State.exec_expiry_reissue onBranch.1 item timer allowed⟩
  obtain rfl : p.item = ref := onBranch.2.1
  refine ⟨p.assembled c data, State.exec_ack_more data onBranch item more, p.assembled_length c data, fun write => ?_,
    fun read k j inside lane => ?_⟩
  · simp only [Progress.assembled, write]
  · rw [Progress.assembled_getD read data inside]
    by_cases own : k = c.word
    · rw [if_pos own, placeRead_byte c data _ lane]
      simp only [own, true_and]
      rfl
    · rw [if_neg own, if_neg fun both => own both.1]

/-! ### ERR -/

/-- 02 R35: the result of an item that ends by ERR. -/
theorem endResult_device (access : Access) (fill : Word) (assembly : List Word) :
    endResult .device access fill assembly = { status := .fault .device, data := [] } := rfl

/-- 04 R82: CYCLE_ERROR. -/
theorem State.engineReport_device (s : State) (it : Item) (p : Progress) (index : BranchIndex) :
    s.engineReport .device it p index =
      s.notified .cycleError (some it.route.window) (some it.request.requester) it.route.epoch (index.setWidth 32)
        (BitVec.ofNat 16 p.cyclesDone) := by
  rw [State.engineReport, State.generate_eq_notified]
  rfl

/-- 04 R78: with no item ACTIVE an answer is ignored. -/
theorem State.exec_answer_idle (s : State) (inactive : s.branch.active = none) :
    exec .branchErr s = .next s ∧ ∀ data : HalfWord, exec (.branchAck data) s = .next s := by
  refine ⟨?_, fun data => ?_⟩
  · simp only [exec, execBranchErr, State.endItem, inactive]
  · simp only [exec, execBranchAck, inactive]

/-- Settles O38: by the end of the item with outcome DEVICE. -/
theorem errEndsTheItem : Obligations.ErrEndsTheItem := by
  refine fun s => ⟨?item, s.exec_answer_idle⟩
  intro p c it onBranch item reported
  obtain ⟨active, -, outstanding⟩ := onBranch
  have index : (p.outstanding.map (·.index)).getD 0 = c.index := by rw [Progress.outstanding, outstanding]; rfl
  have report (t : State) : t.engineReport .device it p c.index = reported t := t.engineReport_device it p c.index
  have run : exec .branchErr s = .next (s.endItem .device) := rfl
  rw [run]
  refine ⟨fun i e ref slot => ?entry, fun ref => ?posted⟩
  case entry =>
    obtain rfl : it = e.item := Option.some.inj (item.symm.trans (State.activeItem_entry ref slot))
    refine ⟨fun phase => ?_, fun phase => ?_⟩
    · rw [State.endItem_ready active ref slot phase (endResult_device ..), index, report]
    · rw [State.endItem_cancelled active ref slot phase (endResult_device ..), index, report, State.dispose_fault,
        auxResultDiscarded_eq]
      rfl
  case posted => rw [State.endItem_posted active ref item, index, report]

end Sys2Proof.Machine

/-! The law on fenced windows: what it rests on, what keeps it, and the end of an item under FENCE. -/

namespace Sys2Proof.Machine

/-! ### What the law rests on -/

/-- What the law on fenced windows speaks of: the flags, the epoch, the pending table, the post queue, and whether its head
drains. -/
structure Fencing where
  fences : BitVec 16
  epoch : BitVec 8
  slots : Vector (Option Entry) 8
  posts : List PostedWrite
  draining : Bool

/-- The fencing a state holds. -/
def State.fencing (s : State) : Fencing :=
  { fences := s.window.fences, epoch := s.window.epoch, slots := s.slots, posts := s.posts, draining := s.draining }

/-- A change that sets no flag and keeps the epoch, after which every item that waits waited before or was admitted to a window
with no flag. -/
structure State.QuietStep (s t : State) : Prop where
  flags : ∀ w : WindowNo, t.fenced w = true → s.fenced w = true
  epoch : t.window.epoch = s.window.epoch
  entries : ∀ i : Slot, ∀ e ∈ t.slots.get i, e.queued = true → e ∈ s.slots.get i ∨ s.fenced e.route.window = false
  posts : ∀ p ∈ t.waitingPosts, p ∈ s.waitingPosts ∨ s.fenced p.route.window = false

theorem Route.names_iff (r : Route) (w : WindowNo) (ep : BitVec 8) : r.names w ep = true ↔ r.window = w ∧ r.epoch = ep := by
  simp [Route.names]

section
variable {s t : State}

/-- 03 R48: with no item ACTIVE every posted write waits. -/
theorem State.waitingPosts_of_inactive (inactive : s.branch.active = none) : s.waitingPosts = s.posts := by
  simp [State.waitingPosts, State.draining, inactive]

/-- 03 R48: all but the head wait while the item taken by a posted reference is ACTIVE. -/
theorem State.waitingPosts_of_active {p : Progress} (active : s.branch.active = some p) :
    s.waitingPosts = if p.item = .posted then s.posts.tail else s.posts := by
  simp [State.waitingPosts, State.draining, active]

theorem State.waitingPosts_eq (posts : t.posts = s.posts) (draining : t.draining = s.draining) :
    t.waitingPosts = s.waitingPosts := by
  rw [State.waitingPosts, posts, draining, State.waitingPosts]

/-- The same work under the same placing is the same fencing. -/
theorem State.fencing_eq (work : t.work = s.work) (placed : t.placing = s.placing) : t.fencing = s.fencing := by
  simp only [State.work, Work.mk.injEq] at work
  obtain ⟨slots, posts, active, -⟩ := work
  have fences : t.window.fences = s.window.fences := congrArg Placing.fences placed
  have epoch : t.window.epoch = s.window.epoch := congrArg Placing.epoch placed
  simp only [State.fencing, State.draining, fences, epoch, slots, posts, active]

theorem State.FencedWindowsQuiet.of_same (quiet : s.FencedWindowsQuiet) (same : t.fencing = s.fencing) :
    t.FencedWindowsQuiet := by
  simp only [State.fencing, Fencing.mk.injEq] at same
  obtain ⟨fences, epoch, slots, posts, draining⟩ := same
  simpa only [State.FencedWindowsQuiet, State.fenced, State.waitingPosts, fences, epoch, slots, posts, draining] using quiet

/-- 01 R10, R22, R23: with every flag clear there is nothing to keep. -/
theorem State.fencedWindowsQuiet_of_clear (clear : t.window.fences = 0) : t.FencedWindowsQuiet :=
  fun w set => absurd set (by simp [State.fenced, clear])

/-- An item that waited in a quiet window, or was admitted to one with no flag, is none of a fenced window. -/
theorem State.FencedWindowsQuiet.of_step (quiet : s.FencedWindowsQuiet) (step : s.QuietStep t) : t.FencedWindowsQuiet := by
  intro w set
  have flag := step.flags w set
  obtain ⟨entries, posts⟩ := quiet w flag
  have elsewhere {r : Route} (unfenced : s.fenced r.window = false) : r.names w s.window.epoch = false := by
    refine Bool.eq_false_iff.mpr fun named => ?_
    obtain ⟨rfl, -⟩ := (r.names_iff _ _).mp named
    simp [unfenced] at flag
  rw [step.epoch]
  exact ⟨fun i e slot queued => (step.entries i e slot queued).elim (fun old => entries i e old queued) elsewhere,
    fun p waits => (step.posts p waits).elim (posts p) elsewhere⟩

/-- The window unit and the waiting writes stay, and each slot keeps its entry or holds one that is not QUEUED, or none. -/
theorem State.QuietStep.of_slots (window : t.window = s.window) (posts : t.waitingPosts = s.waitingPosts)
    (entries : ∀ i : Slot, ∀ e ∈ t.slots.get i, e.queued = true → e ∈ s.slots.get i) : s.QuietStep t where
  flags w := by rw [State.fenced, window]; exact id
  epoch := by rw [window]
  entries i e slot queued := .inl (entries i e slot queued)
  posts p waits := .inl (posts ▸ waits)

/-- 02 R24: one slot becomes FREE. -/
theorem State.FencedWindowsQuiet.freeEntry (quiet : s.FencedWindowsQuiet) (i : Slot) : (s.freeEntry i).FencedWindowsQuiet := by
  refine quiet.of_step (.of_slots rfl rfl fun j e slot _ => ?_)
  rw [State.freeEntry_slots, slots_set_get] at slot
  split at slot
  · cases slot
  · exact slot

/-! ### Notices, disposals and idleness -/

theorem State.FencedWindowsQuiet.dispose (quiet : s.FencedWindowsQuiet) (e : Entry) (r : Result) :
    (s.dispose e r).FencedWindowsQuiet :=
  quiet.of_same (State.fencing_eq (s.dispose_work e r) (s.dispose_placing e r))

/-- 02 R42. -/
theorem State.FencedWindowsQuiet.disposeCancelled (quiet : s.FencedWindowsQuiet) (entry : Option Entry) (r : Result) :
    (s.disposeCancelled entry r).FencedWindowsQuiet := by
  cases entry with
  | none => exact quiet
  | some e =>
    simp only [State.disposeCancelled]
    split
    · exact quiet.dispose e r
    · exact quiet

/-- 04 R84. -/
theorem State.FencedWindowsQuiet.settle (quiet : t.FencedWindowsQuiet) : (State.settle s t).FencedWindowsQuiet :=
  quiet.of_same (State.fencing_eq (s.settle_work t) (s.settle_placing t))

/-! ### The end of an item -/

/-- 04 R79 step 1. -/
theorem State.itemLeft_inactive (s : State) (r : Ref) (result : Result) : (s.itemLeft r result).branch.active = none := by
  rw [s.itemLeft_branch]

/-- 04 R79 steps 1 and 2: the item that leaves its place leaves the others as they wait. -/
theorem State.itemLeft_quietStep {p : Progress} (active : s.branch.active = some p) (result : Result) :
    s.QuietStep (s.itemLeft p.item result) := by
  obtain ⟨window, -⟩ := State.ownerTakes_frame { s with branch.active := none } p.item result
  refine .of_slots window ?_ fun i e slot queued => ?_
  · rw [State.waitingPosts_of_inactive (s.itemLeft_inactive ..), s.itemLeft_posts, State.waitingPosts_of_active active]
  · by_cases own : p.item = .entry i
    · have unqueued := (s.itemLeft_slot i result).1
      rw [own] at slot
      rw [State.slotQueued, Option.mem_def.mp slot, Option.any_some, queued] at unqueued
      cases unqueued
    · rwa [s.itemLeft_get_other result own] at slot

/-- 05 R95, 01 R21: the fence handling sets the flag of its window unless the item is retired. -/
theorem State.fencedState_fenced (s : State) (v w : WindowNo) (ep : BitVec 8) :
    (s.fencedState v ep).fenced w = true ↔ s.fenced w = true ∨ (ep = s.window.epoch ∧ w = v) := by
  simp only [State.fenced, State.fencedState]
  split
  · next current => rw [setFence_getLsbD]; simp [current]
  · next retired => simp [retired]

/-- 05 R96, R97: the purge leaves no item of the window and epoch it is made for, so the new flag finds none. -/
theorem State.FencedWindowsQuiet.fencedState (quiet : s.FencedWindowsQuiet) (inactive : s.branch.active = none) (v : WindowNo)
    (ep : BitVec 8) : (s.fencedState v ep).FencedWindowsQuiet := by
  intro w set
  have waited {r : Route} (left : r.names v ep = false) (before : s.fenced w = true → r.names w s.window.epoch = false) :
      r.names w s.window.epoch = false := by
    rcases (s.fencedState_fenced v w ep).mp set with old | ⟨rfl, rfl⟩
    · exact before old
    · exact left
  constructor
  · intro i e slot queued
    simp only [State.fencedState, mapSlots_get, Option.mem_def, Option.bind_eq_some_iff] at slot
    obtain ⟨e₀, held, same⟩ := slot
    obtain rfl := Option.some.inj same
    have phase := (s.purgeEntry_phase v ep e₀).1
    cases taken : e₀.queued && e₀.route.names v ep with
    | true => simp [taken, queued] at phase
    | false =>
      rw [s.purgeEntry_left taken] at queued ⊢
      exact waited (by simpa [queued] using taken) fun old => (quiet w old).1 i e₀ held queued
  · intro p waits
    have unpurged : (s.fencedState v ep).waitingPosts = s.posts.filter fun p => !p.route.names v ep :=
      State.waitingPosts_of_inactive inactive
    obtain ⟨held, left⟩ := List.mem_filter.mp (unpurged ▸ waits)
    refine waited (by simpa using left) fun old => (quiet w old).2 p ?_
    rwa [State.waitingPosts_of_inactive inactive]

/-- 04 R79 steps 3 and 4: the fence handling, or a notice at most. -/
theorem State.FencedWindowsQuiet.engineReport (quiet : s.FencedWindowsQuiet) (inactive : s.branch.active = none)
    (ending : Ending) (it : Item) (p : Progress) (index : BranchIndex) :
    (s.engineReport ending it p index).FencedWindowsQuiet := by
  cases ending with
  | ok =>
    simp only [State.engineReport]
    split
    · exact quiet
    · exact quiet.of_same rfl
  | device | skipped => exact quiet.of_same rfl
  | fenced =>
    rw [State.engineReport, State.fenceHandling_eq]
    exact (quiet.fencedState inactive _ _).of_same rfl

/-- 04 R79: every end of an item, FENCE among them. -/
theorem State.FencedWindowsQuiet.endItem (quiet : s.FencedWindowsQuiet) (ending : Ending) :
    (s.endItem ending).FencedWindowsQuiet := by
  rcases s.endItem_cases ending with same | ⟨p, it, active, item⟩
  · rwa [same]
  · rw [s.endItem_eq ending active item]
    have left := quiet.of_step (State.itemLeft_quietStep active (endResult ending it.request.access it.route.fill p.assembly))
    have reported := left.engineReport (s.itemLeft_inactive ..) ending it p ((p.outstanding.map (·.index)).getD 0)
    exact (reported.disposeCancelled (s.entryOf p.item) _).settle

/-- 04 R70: an attempt more of the ACTIVE item leaves the others as they wait. -/
theorem State.FencedWindowsQuiet.progress (quiet : s.FencedWindowsQuiet) {p p' : Progress} (active : s.branch.active = some p)
    (item : p'.item = p.item) : State.FencedWindowsQuiet { s with branch.active := some p' } := by
  have draining : State.draining { s with branch.active := some p' } = s.draining := by
    simp [State.draining, active, item]
  refine quiet.of_same ?_
  simp only [State.fencing, draining]

/-- 05 R90. -/
theorem State.FencedWindowsQuiet.expireHandshake (quiet : s.FencedWindowsQuiet) : s.expireHandshake.FencedWindowsQuiet := by
  unfold State.expireHandshake
  split
  · exact quiet
  · next p active =>
    split
    · exact quiet
    · split
      · exact quiet.progress active rfl
      · split <;> exact quiet.endItem _

end

end Sys2Proof.Machine

/-! The law on fenced windows kept by every step, and UNFENCE. -/

namespace Sys2Proof.Machine

section
variable {s : State}

/-! ### Other rows of the engine, hold expiry and time -/

/-- 04 R69: the item taken waits no more. -/
theorem execTakeHead_quiet (quiet : s.FencedWindowsQuiet) : ∃ t : State, execTakeHead s = .next t ∧ t.FencedWindowsQuiet := by
  unfold execTakeHead
  split
  · next r it found =>
    obtain ⟨inactive, -⟩ := State.head_of_takeable found
    have before := State.waitingPosts_of_inactive inactive
    refine ⟨_, rfl, quiet.of_step ?_⟩
    cases r with
    | posted =>
      refine ⟨fun _ => id, rfl, fun _ _ slot _ => .inl slot, fun p waits => .inl ?_⟩
      rw [State.waitingPosts_of_active rfl, if_pos (by rfl)] at waits
      rw [before]
      exact List.mem_of_mem_tail waits
    | entry i =>
      refine .of_slots rfl (by rw [before]; rfl) fun j e slot queued => ?_
      simp only [State.markTaken, slots_set_get] at slot
      split at slot
      · obtain ⟨e₀, -, rfl⟩ := Option.map_eq_some_iff.mp slot
        cases queued
      · exact slot
  · exact ⟨s, rfl, quiet⟩

/-- 04 R76. -/
theorem execBranchAck_quiet (data : HalfWord) (quiet : s.FencedWindowsQuiet) :
    ∃ t : State, execBranchAck data s = .next t ∧ t.FencedWindowsQuiet := by
  unfold execBranchAck
  split
  · exact ⟨s, rfl, quiet⟩
  · next p active =>
    split
    · exact ⟨s, rfl, quiet⟩
    · next c _ =>
      have acked : State.FencedWindowsQuiet { s with branch.active := some (p.acked c data (s.activeLimit p)) } :=
        quiet.progress active rfl
      dsimp only
      split
      · exact ⟨_, rfl, acked⟩
      · exact ⟨_, rfl, acked.endItem _⟩

/-- 02 R37. -/
theorem State.FencedWindowsQuiet.expireHold (quiet : s.FencedWindowsQuiet) (i : Slot) :
    (s.expireHold i).FencedWindowsQuiet := by
  unfold State.expireHold
  split
  · split
    · exact (quiet.freeEntry i).dispose _ _
    · exact quiet
  · exact quiet

/-- 02 R35: time changes no QUEUED entry. -/
theorem Entry.elapse_of_queued {e : Entry} {n : Nat} (queued : (e.elapse n).queued = true) : e.elapse n = e := by
  obtain ⟨request, route, phase⟩ := e
  cases phase with
  | queued | active | cancelled => rfl
  | ready => cases queued

/-- 09 R156: time brings no item. -/
theorem State.FencedWindowsQuiet.elapse (quiet : s.FencedWindowsQuiet) (n : Nat) : (s.elapse n).FencedWindowsQuiet := by
  by_cases held : s.port.held = true
  · rwa [s.elapse_held n held]
  · have out : s.port.held = false := by simpa using held
    have items : (s.elapse n).items = s.items := congrArg Holding.items (s.elapse_holding n)
    have ref : (s.elapse n).activeRef = s.activeRef := congrArg Items.active items
    have draining : (s.elapse n).draining = s.draining := by rw [State.draining_eq, ref, ← State.draining_eq]
    refine quiet.of_step (.of_slots (s.elapse_window n) (State.waitingPosts_eq (s.elapse_posts n) draining) ?_)
    · intro i e slot queued
      rw [s.elapse_get n out, Option.mem_def] at slot
      obtain ⟨e₀, old, rfl⟩ := Option.map_eq_some_iff.mp slot
      rwa [Entry.elapse_of_queued queued]

/-! ### Commands -/

/-- 02 R40: an entry FLUSH leaves is CANCELLED. -/
theorem Entry.queued_of_flushed {e e' : Entry} (left : e.flushed = some e') : e'.queued = false := by
  obtain ⟨request, route, phase⟩ := e
  cases phase with
  | queued | ready => cases left
  | active | cancelled => cases left; rfl

/-- 02 R40: FLUSH leaves no QUEUED entry, and the posted writes as they wait. -/
theorem State.FencedWindowsQuiet.flush (quiet : s.FencedWindowsQuiet) (r : Requester) : (s.flush r).FencedWindowsQuiet := by
  have told : (s.flushTold r).FencedWindowsQuiet := by
    refine quiet.of_step (.of_slots rfl rfl fun i e slot queued => ?_)
    rw [s.flushTold_get, Option.mem_def] at slot
    obtain ⟨e₀, -, left⟩ := Option.bind_eq_some_iff.mp slot
    simp [Entry.queued_of_flushed left] at queued
  rw [s.flush_eq r]
  exact State.FencedWindowsQuiet.of_same told.settle rfl

/-- 05 R102: UNFENCE clears a flag at most. -/
theorem State.FencedWindowsQuiet.unfence (quiet : s.FencedWindowsQuiet) (r : Requester) (argument : BitVec 8) :
    (s.unfence r argument).FencedWindowsQuiet := by
  unfold State.unfence
  split
  · next named =>
    split
    · refine quiet.of_step ⟨fun w set => ?_, rfl, fun _ _ slot _ => .inl slot, fun _ => .inl⟩
      have flag : (clearFence s.window.fences ⟨argument.toNat, named⟩).getLsbD w.val = true := set
      rw [clearFence_getLsbD] at flag
      exact (Bool.and_eq_true_iff.mp flag).1
    · exact quiet.of_same rfl
  · exact quiet.of_same rfl

/-- 05 R100. -/
theorem State.FencedWindowsQuiet.branchAbort (quiet : s.FencedWindowsQuiet) (r : Requester) :
    (s.branchAbort r).FencedWindowsQuiet := by
  unfold State.branchAbort
  split
  · exact (quiet.endItem _).of_same rfl
  · exact quiet.of_same rfl

/-- 01 R10, R11: COMMIT clears every flag, or changes nothing the law speaks of. -/
theorem State.FencedWindowsQuiet.commit (quiet : s.FencedWindowsQuiet) (r : Requester) : (s.commit r).FencedWindowsQuiet := by
  unfold State.commit
  split
  · exact State.fencedWindowsQuiet_of_clear rfl
  · exact quiet.of_same rfl

theorem State.FencedWindowsQuiet.takeCommand (quiet : s.FencedWindowsQuiet) (r : Requester) (argument : BitVec 8)
    (c : Command) : (s.takeCommand r argument c).FencedWindowsQuiet := by
  cases c with
  | commit => exact quiet.commit r
  | unfence => exact quiet.unfence r argument
  | flush => exact quiet.flush r
  | branchAbort => exact quiet.branchAbort r
  | bridgeReset =>
    rw [State.takeCommand, s.bridgeReset_eq r]
    exact State.fencedWindowsQuiet_of_clear rfl
  | reclaimPop => simp only [State.takeCommand, State.reclaimPop]; split <;> exact quiet.of_same rfl
  | noticeStart =>
    simp only [State.takeCommand, State.noticeStart]
    split
    · split
      · exact quiet.of_same rfl
      · split <;> exact quiet.of_same rfl
    · exact quiet.of_same rfl
    · exact quiet.of_same rfl
  | park => simp only [State.takeCommand, State.park]; split <;> exact quiet.of_same rfl
  | wake => simp only [State.takeCommand, State.wake]; split <;> exact quiet.of_same rfl
  | revert | reclaimClear | noticeStop | timeSet => exact quiet.of_same rfl

theorem State.FencedWindowsQuiet.commandWrite (quiet : s.FencedWindowsQuiet) (r : Requester) (code argument : BitVec 8) :
    (s.commandWrite r code argument).FencedWindowsQuiet := by
  unfold State.commandWrite
  split
  · exact quiet.takeCommand r argument _
  · exact quiet.of_same rfl

/-! ### Aperture writes -/

theorem State.FencedWindowsQuiet.writeSetting (quiet : s.FencedWindowsQuiet) (r : Requester) (which : Setting) (v : Word) :
    (s.writeSetting r which v).FencedWindowsQuiet :=
  quiet.of_same (State.fencing_eq (s.writeSetting_work r which v) (s.writeSetting_placing r which v))

theorem State.FencedWindowsQuiet.configWrite (quiet : s.FencedWindowsQuiet) (r : Requester) (field : ConfigField) (v : Word) :
    (s.configWrite r field v).FencedWindowsQuiet := by
  unfold State.configWrite
  split
  · split <;> exact quiet.of_same rfl
  · exact quiet.of_same rfl

theorem State.FencedWindowsQuiet.consumerWrite (quiet : s.FencedWindowsQuiet) (r : Requester) (v : Word) :
    (s.consumerWrite r v).FencedWindowsQuiet :=
  quiet.of_same (State.fencing_eq (s.consumerWrite_work r v) (s.consumerWrite_placing r v))

theorem State.FencedWindowsQuiet.writeWord (quiet : s.FencedWindowsQuiet) (r : Requester) (word : ApertureWord) (v : Word) :
    (s.writeWord r word v).FencedWindowsQuiet := by
  cases word with
  | setting which => exact quiet.writeSetting r which v
  | command => exact quiet.commandWrite r _ _
  | config field => exact quiet.configWrite r field v
  | consumer => exact quiet.consumerWrite r v
  | _ => exact quiet.of_same rfl

theorem State.FencedWindowsQuiet.apertureGate (quiet : s.FencedWindowsQuiet) (r : Requester) {f : State → State}
    (effect : (f s).FencedWindowsQuiet) : (s.apertureGate r f).FencedWindowsQuiet :=
  gate_cases (P := State.FencedWindowsQuiet) (fun _ _ kept => kept.of_same rfl) quiet effect

theorem State.FencedWindowsQuiet.apertureRequest (quiet : s.FencedWindowsQuiet) (q : TrunkRequest) :
    (s.apertureRequest q).FencedWindowsQuiet := by
  unfold State.apertureRequest
  split
  · unfold State.apertureAccess
    split
    · exact quiet.of_same rfl
    · exact quiet.apertureGate _ (quiet.writeWord _ _ _)
    · exact quiet.of_same rfl
  · exact quiet.of_same rfl

/-! ### Requests -/

/-- 02 R27, R28. -/
theorem State.FencedWindowsQuiet.answerEntry (quiet : s.FencedWindowsQuiet) (i : Slot) (e : Entry) (q : TrunkRequest) :
    (s.answerEntry i e q).FencedWindowsQuiet := by
  unfold State.answerEntry
  split
  · exact quiet.of_same rfl
  · split
    · exact (quiet.freeEntry i).of_same rfl
    · exact quiet.of_same rfl

/-- 06 R110. -/
theorem State.FencedWindowsQuiet.lateDeliver (quiet : s.FencedWindowsQuiet) (k : Nat) : (s.lateDeliver k).FencedWindowsQuiet := by
  unfold State.lateDeliver
  split <;> exact quiet.of_same rfl

/-- 02 R30: an entry is admitted to a window with no flag. -/
theorem State.FencedWindowsQuiet.admitDelayed (quiet : s.FencedWindowsQuiet) (q : TrunkRequest) (route : Route)
    (unfenced : s.fenced route.window = false) : (s.admitDelayed q route).FencedWindowsQuiet := by
  unfold State.admitDelayed
  split
  · next i _ =>
    refine quiet.of_step ⟨fun w => ?_, by simp, fun j e slot _ => ?_, fun p waits => .inl ?_⟩
    · simp [State.fenced]
    · rw [State.answer_slots, State.enqueue_slots, State.putEntry_slots, slots_set_get] at slot
      split at slot
      · obtain rfl := Option.some.inj slot
        exact .inr unfenced
      · exact .inl slot
    · rwa [State.waitingPosts_eq (s := s) (by simp) (by simp [State.draining])] at waits
  · exact quiet.of_same rfl

/-- 03 R48: a posted write admitted waits behind those that wait. -/
theorem State.mem_waitingPosts_of_append {s t : State} {p x : PostedWrite} (posts : t.posts = s.posts ++ [x])
    (draining : t.draining = s.draining) (waits : p ∈ t.waitingPosts) : p ∈ s.waitingPosts ∨ p = x := by
  rw [State.waitingPosts, posts, draining] at waits
  rw [State.waitingPosts]
  split at waits
  · next drains =>
    rw [if_pos drains]
    cases held : s.posts with
    | nil => simp [held] at waits
    | cons head rest => simpa [held] using waits
  · next still =>
    rw [if_neg still]
    simpa using waits

/-- 03 R49: a posted write is admitted to a window with no flag. -/
theorem State.FencedWindowsQuiet.admitPosted (quiet : s.FencedWindowsQuiet) (q : TrunkRequest) (words : List LaneWord)
    (route : Route) (unfenced : s.fenced route.window = false) : (s.admitPosted q words route).FencedWindowsQuiet := by
  unfold State.admitPosted
  split
  · refine quiet.of_step ⟨fun w => ?_, by simp, fun j e slot _ => .inl (by simpa using slot), fun p waits => ?_⟩
    · simp [State.fenced]
    · have posts := State.enqueue_posts (s.appendPost ⟨q.requester, q.address, words, route⟩) .posted
      rcases State.mem_waitingPosts_of_append posts (by simp [State.draining]) waits with old | rfl
      · exact .inl old
      · exact .inr unfenced
  · exact quiet.of_same rfl

/-- 08 R144, 01 R19: the snapshot names the window the request decoded to. -/
theorem State.FencedWindowsQuiet.admission (quiet : s.FencedWindowsQuiet) (q : TrunkRequest) (w : WindowNo)
    (unfenced : s.fenced w = false) : (s.admission q w).FencedWindowsQuiet := by
  simp only [State.admission]
  split
  · exact quiet.of_same rfl
  · split
    · exact quiet.admitDelayed q _ unfenced
    · split
      · exact quiet.admitPosted q _ _ unfenced
      · exact quiet.admitDelayed q _ unfenced

/-- 08 R142 to R144, 01 R20: a fenced window admits nothing. -/
theorem State.FencedWindowsQuiet.windowRequest (quiet : s.FencedWindowsQuiet) (q : TrunkRequest) :
    (s.windowRequest q).FencedWindowsQuiet := by
  unfold State.windowRequest
  split
  · exact quiet.of_same rfl
  · split
    · exact quiet.of_same rfl
    · split
      · exact quiet.of_same rfl
      · split
        · exact quiet.of_same rfl
        · next unfenced => exact quiet.admission q _ (by rwa [Bool.not_eq_true] at unfenced)

/-- 08 R138 steps 3 to 9. -/
theorem State.FencedWindowsQuiet.matchOrPass (quiet : s.FencedWindowsQuiet) (q : TrunkRequest) :
    (s.matchOrPass q).FencedWindowsQuiet := by
  unfold State.matchOrPass State.reclaimOrWindow
  split
  · exact quiet.answerEntry _ _ q
  · split
    · exact quiet.lateDeliver _
    · exact quiet.windowRequest q

/-- 08 R138: a request through the check sequence. -/
theorem State.FencedWindowsQuiet.present (quiet : s.FencedWindowsQuiet) (q : TrunkRequest) : (s.present q).FencedWindowsQuiet := by
  unfold State.present
  split
  · exact quiet.of_same rfl
  · split
    · exact quiet.of_same rfl
    · split
      · exact quiet.apertureRequest q
      · exact quiet.matchOrPass q

/-! ### Every command -/

/-- A row that has its effect on a condition and else changes nothing. -/
theorem State.FencedWindowsQuiet.ite (quiet : s.FencedWindowsQuiet) {u : State} {c : Prop} [Decidable c]
    (effect : u.FencedWindowsQuiet) :
    ∃ t : State, (if c then .next u else .next s : Host.Outcome State Fault Refusal) = .next t ∧ t.FencedWindowsQuiet := by
  split
  · exact ⟨u, rfl, effect⟩
  · exact ⟨s, rfl, quiet⟩

/-- A row that an aperture write carries. -/
theorem State.FencedWindowsQuiet.gate (quiet : s.FencedWindowsQuiet) (r : Requester) {f : State → State}
    (effect : (f s).FencedWindowsQuiet) :
    ∃ t : State, (.next (s.apertureGate r f) : Host.Outcome State Fault Refusal) = .next t ∧ t.FencedWindowsQuiet :=
  ⟨_, rfl, quiet.apertureGate r effect⟩

/-- 07 R124. -/
theorem execRecordWrite_quiet (quiet : s.FencedWindowsQuiet) :
    ∃ t : State, execRecordWrite s = .next t ∧ t.FencedWindowsQuiet := by
  unfold execRecordWrite
  split
  · exact quiet.ite (quiet.of_same rfl)
  · exact ⟨s, rfl, quiet⟩

/-- 07 R131. -/
theorem execAbandonedWriteAnswer_quiet (answer : WriteAnswer) (quiet : s.FencedWindowsQuiet) :
    ∃ t : State, execAbandonedWriteAnswer answer s = .next t ∧ t.FencedWindowsQuiet := by
  unfold execAbandonedWriteAnswer
  split
  · split
    · exact ⟨_, rfl, quiet.of_same (State.fencing_eq (s.abandonedDone_work _) (s.abandonedDone_placing _))⟩
    · exact ⟨_, rfl, quiet.of_same rfl⟩
  · exact ⟨s, rfl, quiet⟩

/-- 08 R140. -/
theorem execApertureAccessRefused_quiet (q : TrunkRequest) (quiet : s.FencedWindowsQuiet) :
    ∃ t : State, execApertureAccessRefused q s = .next t ∧ t.FencedWindowsQuiet := by
  unfold execApertureAccessRefused
  split
  · exact ⟨_, rfl, quiet.of_same rfl⟩
  · split <;> exact ⟨_, rfl, quiet.of_same rfl⟩

/-- 07 R125 steps 1 to 5: a notice delivered is no item. -/
theorem State.recordDelivered_fencing (s : State) : s.recordDelivered.ringHalf.issueSignal.fencing = s.fencing :=
  State.fencing_eq ((State.issueSignal_work _).trans s.recordDelivered.ringHalf_work) (by simp)

/-- 07 R125, R128. -/
theorem State.writeWait_fencing (s : State) (reason : StallReason) : (s.writeWait reason).fencing = s.fencing := by
  simp [State.fencing, State.draining]

/-- Whatever the command, fenced windows stay quiet. -/
theorem exec_quiet (c : Instr) (quiet : s.FencedWindowsQuiet) : ∃ t : State, exec c s = .next t ∧ t.FencedWindowsQuiet := by
  cases c with
  | trunkRequest q => exact ⟨_, rfl, quiet.present q⟩
  | apertureWrite r offset v => exact ⟨_, rfl, quiet.present _⟩
  | apertureAccessRefused q => exact execApertureAccessRefused_quiet q quiet
  | takeHead => exact execTakeHead_quiet quiet
  | branchAck data => exact execBranchAck_quiet data quiet
  | branchErr => exact ⟨_, rfl, quiet.endItem _⟩
  | handshakeLimitExpiry => exact quiet.ite quiet.expireHandshake
  | holdExpiry i => exact quiet.ite (quiet.expireHold i)
  | warmUpExpiry => exact quiet.ite (quiet.of_same (State.fencing_eq s.expireWarmUp_work s.expireWarmUp_placing))
  | recordWrite => exact execRecordWrite_quiet quiet
  | recordWriteDone => exact quiet.ite (quiet.of_same s.recordDelivered_fencing)
  | recordWriteWait | signalWriteWait => exact quiet.ite (quiet.of_same (s.writeWait_fencing _))
  | idleTimerExpiry | recordWriteFault | signalWriteDone | signalWriteFault | hardResetRelease =>
    exact quiet.ite (quiet.of_same rfl)
  | abandonedWriteAnswer answer => exact execAbandonedWriteAnswer_quiet answer quiet
  | commit r => exact quiet.gate r (quiet.commit r)
  | revert r => exact quiet.gate r (quiet.takeCommand r 0 .revert)
  | unfence r argument => exact quiet.gate r (quiet.unfence r argument)
  | flush r => exact quiet.gate r (quiet.flush r)
  | reclaimPop r => exact quiet.gate r (quiet.takeCommand r 0 .reclaimPop)
  | reclaimClear r => exact quiet.gate r (quiet.takeCommand r 0 .reclaimClear)
  | noticeStart r => exact quiet.gate r (quiet.takeCommand r 0 .noticeStart)
  | noticeStop r => exact quiet.gate r (quiet.takeCommand r 0 .noticeStop)
  | park r => exact quiet.gate r (quiet.takeCommand r 0 .park)
  | wake r => exact quiet.gate r (quiet.takeCommand r 0 .wake)
  | branchAbort r => exact quiet.gate r (quiet.branchAbort r)
  | timeSet r => exact quiet.gate r (quiet.takeCommand r 0 .timeSet)
  | bridgeReset r => exact quiet.gate r (quiet.takeCommand r 0 .bridgeReset)
  | unknownCommand r code => exact quiet.gate r (quiet.commandWrite r code 0)
  | requesterQuotaWrite r v => exact quiet.gate r (quiet.writeSetting r .requesterQuota v)
  | holdLimitWrite r v => exact quiet.gate r (quiet.writeSetting r .holdLimit v)
  | managementWriteMaskWrite r v => exact quiet.gate r (quiet.writeSetting r .writeMask v)
  | warmUpWrite r v => exact quiet.gate r (quiet.writeSetting r .warmUp v)
  | autoParkIntervalWrite r v => exact quiet.gate r (quiet.writeSetting r .autoPark v)
  | noticeConfigurationWrite r field v => exact quiet.gate r (quiet.configWrite r field v)
  | consumerCounterWrite r v => exact quiet.gate r (quiet.consumerWrite r v)
  | hardReset cause => exact ⟨_, rfl, State.fencedWindowsQuiet_of_clear rfl⟩

end

/-- Settles O10: the purge empties a window as its flag is set, and a fenced window admits nothing. -/
theorem stepKeepsFencedWindowsQuiet : Obligations.StepKeepsFencedWindowsQuiet := by
  intro s t quiet step
  refine step_keeps State.FencedWindowsQuiet (fun _ _ kept => kept.of_same rfl) (fun c u v kept run => ?_)
    (fun _ kept => kept.elapse 1) quiet step
  obtain ⟨w, took, held⟩ := exec_quiet c kept
  obtain rfl : w = v := by rw [took] at run; injection run
  exact held

/-! ### UNFENCE -/

/-- 05 R102: UNFENCE, written by a requester that may. -/
theorem exec_unfence (s : State) (r : Requester) (argument : BitVec 8) (accepted : s.accepts r) :
    exec (.unfence r argument) s = .next ((s.unfence r argument).answer (.done [])) := by
  rw [exec, execUnfence, s.apertureGate_accepted r _ accepted]

/-- 05 R102: an argument above 15 names no window. -/
theorem State.unfence_field (s : State) (r : Requester) {argument : BitVec 8} (above : 15 < argument.toNat) :
    s.unfence r argument = s.resultRefused (.command .unfence) r .field (argument.setWidth 16) := by
  rw [State.unfence, dif_neg (by omega)]

/-- 05 R102: the flag of the window named, clear or set. -/
theorem State.unfence_window (s : State) (r : Requester) {argument : BitVec 8} {w : WindowNo} (named : w.val = argument.toNat) :
    s.unfence r argument =
      if s.fenced w then
        State.resultDone { s with window.fences := clearFence s.window.fences w } (.command .unfence) r (argument.setWidth 16)
      else s.resultRefused (.command .unfence) r .notFenced (argument.setWidth 16) := by
  have below : argument.toNat < 16 := named ▸ w.isLt
  obtain rfl : w = ⟨argument.toNat, below⟩ := Fin.ext named
  rw [State.unfence, dif_pos below]

/-- Settles O54: by the argument, then by the flag of the window it names. -/
theorem unfenceClearsItsWindowsFlag : Obligations.UnfenceClearsItsWindowsFlag := by
  intro s r argument accepted answer
  have run := exec_unfence s r argument accepted
  refine ⟨fun above => ?field, fun w named => ⟨fun clear => ?notFenced, fun set => ?cleared⟩⟩
  case field =>
    rw [s.unfence_field r above] at run
    exact run
  case notFenced =>
    rw [s.unfence_window r named, clear] at run
    exact run
  case cleared =>
    rw [s.unfence_window r named, set] at run
    exact ⟨clearFence s.window.fences w, clearFence_getLsbD s.window.fences w, run⟩

end Sys2Proof.Machine

/-! What one step can do to the reclaim log, and the order of its records. -/

namespace Sys2Proof.Machine

/-! ### The ways the log can change -/

/-- Everything one command can do to the reclaim log: records leave it, the reads of one event join at its tail, or a hard reset
empties it. -/
inductive State.LogStep (s t : State) : Prop
  | kept (log : t.reclaim = s.reclaim)
  | removed (records : t.reclaim.records.Sublist s.reclaim.records) (next : t.reclaim.nextSequence = s.reclaim.nextSequence)
  | handed (reads : List (Entry × List Word)) (log : t.reclaim = s.logWith reads)
  | emptied (held : t.port.held = true) (log : t.reclaim = .reset)

/-- Of the state before it, a change of the log rests on the log and the time base. -/
theorem State.LogStep.congr_left {s u t : State} (change : u.LogStep t) (log : u.reclaim = s.reclaim) (mgmt : u.mgmt = s.mgmt) :
    s.LogStep t := by
  cases change with
  | kept same => exact .kept (same.trans log)
  | removed records next => exact .removed (log ▸ records) (log ▸ next)
  | handed reads log' => exact .handed reads (log'.trans (State.logWith_congr log mgmt reads))
  | emptied held empty => exact .emptied held empty

/-- Of the state after it, a change of the log rests on the log and the reset pin. -/
theorem State.LogStep.congr_right {s t u : State} (change : s.LogStep t) (log : u.reclaim = t.reclaim)
    (pin : u.port.held = t.port.held) : s.LogStep u := by
  cases change with
  | kept same => exact .kept (log.trans same)
  | removed records next => exact .removed (log ▸ records) (log ▸ next)
  | handed reads log' => exact .handed reads (log.trans log')
  | emptied held empty => exact .emptied (pin.trans held) (log.trans empty)

/-- 08 R137: the answer given is no part of the log. -/
theorem State.LogStep.answer {s t : State} (change : s.LogStep t) (a : Answer) : s.LogStep (t.answer a) :=
  change.congr_right rfl rfl

/-- 06 R107, R108: the records made of the reads of one event carry consecutive numbers. -/
theorem State.recordMade_sequences (s : State) (reads : List (Entry × List Word)) :
    (reads.zipIdx.map fun p => s.recordMade p.1.1 p.1.2 p.2).map (·.sequence)
      = (List.range reads.length).map fun k => s.reclaim.nextSequence + BitVec.ofNat 16 k := by
  calc (reads.zipIdx.map fun p => s.recordMade p.1.1 p.1.2 p.2).map (·.sequence)
      = (reads.zipIdx.map Prod.snd).map fun k => s.reclaim.nextSequence + BitVec.ofNat 16 k := by
        simp only [List.map_map]; rfl
    _ = (List.range reads.length).map fun k => s.reclaim.nextSequence + BitVec.ofNat 16 k := by
        rw [List.zipIdx_map_snd, List.range_eq_range']

/-! ### Disposals and the end of an item -/

/-- 02 R37, R38, 06 R108: a disposal hands one read to the log at most. -/
theorem State.dispose_logStep (s : State) (e : Entry) (r : Result) : s.LogStep (s.dispose e r) := by
  by_cases give : e.reclaimable r = true
  · rcases lt_or_ge s.reclaim.records.length 8 with room | full
    · rw [State.dispose_room rfl rfl rfl give room]
      exact .handed [(e, r.data)] rfl
    · rw [State.dispose_full rfl rfl give full]
      exact .kept rfl
  · rw [State.dispose_discard rfl give]
    exact .kept rfl

/-- 02 R42. -/
theorem State.disposeCancelled_logStep (s : State) (e : Option Entry) (r : Result) : s.LogStep (s.disposeCancelled e r) := by
  cases e with
  | none => exact .kept rfl
  | some e =>
    simp only [State.disposeCancelled]
    split
    · exact s.dispose_logStep e r
    · exact .kept rfl

/-- 04 R79 steps 3 and 4: no outcome touches the log or the time base before the disposal. -/
theorem State.engineReport_log (s : State) (ending : Ending) (it : Item) (p : Progress) (index : BranchIndex) :
    (s.engineReport ending it p index).reclaim = s.reclaim ∧ (s.engineReport ending it p index).mgmt = s.mgmt := by
  by_cases fenced : ending = .fenced
  · subst fenced
    rw [State.engineReport, State.fenceHandling_eq]
    exact ⟨rfl, rfl⟩
  · exact (s.engineReport_frame ending it p index fenced).2

/-- 04 R79. -/
theorem State.endItem_logStep (s : State) (ending : Ending) : s.LogStep (s.endItem ending) := by
  rcases s.endItem_cases ending with same | ⟨p, it, active, item⟩
  · exact .kept (by rw [same])
  · rw [s.endItem_eq ending active item]
    obtain ⟨-, -, -, settled, -, -, port⟩ := State.settle_frame s _
    refine State.LogStep.congr_right ?_ settled (congrArg Port.held port)
    refine (State.disposeCancelled_logStep ..).congr_left ?_ ?_ <;> simp [State.engineReport_log]

/-- 05 R90. -/
theorem State.expireHandshake_logStep (s : State) : s.LogStep s.expireHandshake := by
  unfold State.expireHandshake
  split
  · exact .kept rfl
  · split
    · exact .kept rfl
    · split
      · exact .kept rfl
      · split <;> exact s.endItem_logStep _

/-- 04 R69. -/
theorem execTakeHead_logStep (s : State) : ∃ t : State, execTakeHead s = .next t ∧ s.LogStep t := by
  unfold execTakeHead
  split
  · next r it _ => exact ⟨_, rfl, .kept (by cases r <;> rfl)⟩
  · exact ⟨s, rfl, .kept rfl⟩

/-- 04 R76. -/
theorem execBranchAck_logStep (data : HalfWord) (s : State) : ∃ t : State, execBranchAck data s = .next t ∧ s.LogStep t := by
  unfold execBranchAck
  split
  · exact ⟨s, rfl, .kept rfl⟩
  · split
    · exact ⟨s, rfl, .kept rfl⟩
    · dsimp only
      split
      · exact ⟨_, rfl, .kept rfl⟩
      · exact ⟨_, rfl, (State.endItem_logStep _ _).congr_left rfl rfl⟩

/-- 02 R37. -/
theorem State.expireHold_logStep (s : State) (i : Slot) : s.LogStep (s.expireHold i) := by
  unfold State.expireHold
  split
  · split
    · exact (State.dispose_logStep _ _ _).congr_left rfl rfl
    · exact .kept rfl
  · exact .kept rfl

/-! ### The notice engine -/

/-- 07 R124. -/
theorem execRecordWrite_logStep (s : State) : ∃ t : State, execRecordWrite s = .next t ∧ s.LogStep t := by
  unfold execRecordWrite
  split
  · split <;> exact ⟨_, rfl, .kept rfl⟩
  · exact ⟨s, rfl, .kept rfl⟩

/-- 07 R131. -/
@[simp] theorem State.abandonedDone_reclaim (s : State) (restarted : Bool) : (s.abandonedDone restarted).reclaim = s.reclaim := by
  unfold State.abandonedDone
  split
  · simp
  · split <;> simp
  · split <;> simp

theorem execAbandonedWriteAnswer_logStep (answer : WriteAnswer) (s : State) :
    ∃ t : State, execAbandonedWriteAnswer answer s = .next t ∧ s.LogStep t := by
  unfold execAbandonedWriteAnswer
  split
  · split
    · exact ⟨_, rfl, .kept (s.abandonedDone_reclaim _)⟩
    · exact ⟨_, rfl, .kept rfl⟩
  · exact ⟨s, rfl, .kept rfl⟩

/-! ### Commands -/

/-- 02 R40: FLUSH hands the undelivered reads to the log. -/
theorem State.flush_logStep (s : State) (r : Requester) : s.LogStep (s.flush r) := by
  obtain ⟨-, -, -, settled, -⟩ := State.settle_frame s (s.flushTold r)
  rw [s.flush_eq r]
  exact .handed s.undelivered settled

/-- 02 R45: BRIDGE_RESET hands the undelivered reads to the log. -/
theorem State.bridgeReset_logStep (s : State) (r : Requester) : s.LogStep (s.bridgeReset r) := by
  rw [s.bridgeReset_eq r]
  exact .handed s.undelivered rfl

/-- 06 R114: with a record in the log, RECLAIM_POP removes the head. -/
theorem State.reclaimPop_cons (s : State) (r : Requester) {head : ReclaimRecord} {rest : List ReclaimRecord}
    (log : s.reclaim.records = head :: rest) :
    s.reclaimPop r =
      State.resultDone { s with reclaim.records := rest } (.command .reclaimPop) r head.sequence := by
  simp only [State.reclaimPop, log]

/-- 06 R114: with an empty log, RECLAIM_POP is refused. -/
theorem State.reclaimPop_nil (s : State) (r : Requester) (empty : s.reclaim.records = []) :
    s.reclaimPop r = s.resultRefused (.command .reclaimPop) r .empty 0 := by
  simp only [State.reclaimPop, empty]

/-- 06 R114. -/
theorem State.reclaimPop_logStep (s : State) (r : Requester) : s.LogStep (s.reclaimPop r) := by
  cases log : s.reclaim.records with
  | nil => rw [s.reclaimPop_nil r log]; exact .kept rfl
  | cons head rest =>
    rw [s.reclaimPop_cons r log]
    exact .removed (log ▸ List.sublist_cons_self head rest) rfl

theorem State.takeCommand_logStep (s : State) (r : Requester) (argument : BitVec 8) (c : Command) :
    s.LogStep (s.takeCommand r argument c) := by
  cases c with
  | flush => exact s.flush_logStep r
  | reclaimPop => exact s.reclaimPop_logStep r
  | reclaimClear => exact .removed (List.nil_sublist _) rfl
  | bridgeReset => exact s.bridgeReset_logStep r
  | branchAbort =>
    simp only [State.takeCommand, State.branchAbort]
    split
    · exact (s.endItem_logStep _).congr_right rfl rfl
    · exact .kept rfl
  | commit => simp only [State.takeCommand, State.commit]; split <;> exact .kept rfl
  | unfence =>
    simp only [State.takeCommand, State.unfence]
    split
    · split <;> exact .kept rfl
    · exact .kept rfl
  | noticeStart =>
    simp only [State.takeCommand, State.noticeStart]
    split
    · split
      · exact .kept rfl
      · split <;> exact .kept rfl
    · exact .kept rfl
    · exact .kept rfl
  | park => simp only [State.takeCommand, State.park]; split <;> exact .kept rfl
  | wake => simp only [State.takeCommand, State.wake]; split <;> exact .kept rfl
  | revert | noticeStop | timeSet => exact .kept rfl

theorem State.commandWrite_logStep (s : State) (r : Requester) (code argument : BitVec 8) :
    s.LogStep (s.commandWrite r code argument) := by
  unfold State.commandWrite
  split
  · exact s.takeCommand_logStep r argument _
  · exact .kept rfl

/-! ### Aperture writes -/

/-- 09 R154: a setting is no part of the log. -/
@[simp] theorem State.writeSetting_reclaim (s : State) (r : Requester) (which : Setting) (v : Word) :
    (s.writeSetting r which v).reclaim = s.reclaim := by
  have taken (inRange : Bool) (f : State → State) (same : (f s).reclaim = s.reclaim) :
      (State.settingWrite r inRange f s).reclaim = s.reclaim := by
    unfold State.settingWrite
    split
    · exact same
    · rfl
  cases which with
  | requesterQuota | holdLimit | writeMask | warmUp => exact taken _ _ rfl
  | autoPark =>
    refine taken _ _ ?_
    split <;> rfl

@[simp] theorem State.configWrite_reclaim (s : State) (r : Requester) (field : ConfigField) (v : Word) :
    (s.configWrite r field v).reclaim = s.reclaim := by
  unfold State.configWrite
  split
  · split <;> rfl
  · rfl

@[simp] theorem State.consumerWrite_reclaim (s : State) (r : Requester) (v : Word) : (s.consumerWrite r v).reclaim = s.reclaim := by
  simp only [State.consumerWrite]; split <;> rfl

theorem State.writeWord_logStep (s : State) (r : Requester) (word : ApertureWord) (v : Word) :
    s.LogStep (s.writeWord r word v) := by
  cases word with
  | setting which => exact .kept (s.writeSetting_reclaim r which v)
  | command => exact s.commandWrite_logStep r _ _
  | config field => exact .kept (s.configWrite_reclaim r field v)
  | consumer => exact .kept (s.consumerWrite_reclaim r v)
  | _ => exact .kept rfl

theorem State.apertureGate_logStep (s : State) (r : Requester) (f : State → State) (effect : s.LogStep (f s)) :
    s.LogStep (s.apertureGate r f) :=
  gate_cases (P := s.LogStep) (fun _ a change => change.answer a) (.kept rfl) effect

theorem State.apertureRequest_logStep (s : State) (q : TrunkRequest) : s.LogStep (s.apertureRequest q) := by
  unfold State.apertureRequest
  split
  · unfold State.apertureAccess
    split
    · exact .kept rfl
    · exact s.apertureGate_logStep _ _ (s.writeWord_logStep ..)
    · exact .kept rfl
  · exact .kept rfl

/-! ### Requests -/

/-- 02 R27, R28. -/
@[simp] theorem State.answerEntry_reclaim (s : State) (i : Slot) (e : Entry) (q : TrunkRequest) :
    (s.answerEntry i e q).reclaim = s.reclaim := by
  unfold State.answerEntry
  split
  · rfl
  · split <;> rfl

/-- 02 R30, R31. -/
@[simp] theorem State.admitDelayed_reclaim (s : State) (q : TrunkRequest) (route : Route) :
    (s.admitDelayed q route).reclaim = s.reclaim := by
  unfold State.admitDelayed; split <;> simp

/-- 03 R49, R50. -/
@[simp] theorem State.admitPosted_reclaim (s : State) (q : TrunkRequest) (words : List LaneWord) (route : Route) :
    (s.admitPosted q words route).reclaim = s.reclaim := by
  unfold State.admitPosted; split <;> simp

/-- 08 R142 to R144: the windows know nothing of the log. -/
@[simp] theorem State.windowRequest_reclaim (s : State) (q : TrunkRequest) : (s.windowRequest q).reclaim = s.reclaim := by
  have admitted (w : WindowNo) : (s.admission q w).reclaim = s.reclaim := by
    simp only [State.admission]
    split
    · rfl
    · split
      · exact s.admitDelayed_reclaim q _
      · split
        · exact s.admitPosted_reclaim q _ _
        · exact s.admitDelayed_reclaim q _
  unfold State.windowRequest
  split
  · rfl
  · split
    · rfl
    · split
      · rfl
      · split
        · rfl
        · exact admitted _

/-- 06 R110: a late delivery removes one record. -/
theorem State.lateDeliver_logStep (s : State) (k : Nat) : s.LogStep (s.lateDeliver k) := by
  unfold State.lateDeliver
  split
  · exact .removed (List.eraseIdx_sublist ..) rfl
  · exact .kept rfl

/-- 08 R138 steps 3 to 9: a READ with the key of a record alone reaches the log. -/
theorem State.matchOrPass_logStep (s : State) (q : TrunkRequest) : s.LogStep (s.matchOrPass q) := by
  unfold State.matchOrPass State.reclaimOrWindow
  split
  · exact .kept (s.answerEntry_reclaim ..)
  · split
    · exact s.lateDeliver_logStep _
    · exact .kept (s.windowRequest_reclaim q)

/-- 08 R138: a request through the check sequence. -/
theorem State.present_logStep (s : State) (q : TrunkRequest) : s.LogStep (s.present q) := by
  unfold State.present
  split
  · exact .kept rfl
  · split
    · exact .kept rfl
    · split
      · exact s.apertureRequest_logStep q
      · exact s.matchOrPass_logStep q

/-- 08 R140. -/
theorem execApertureAccessRefused_logStep (q : TrunkRequest) (s : State) :
    ∃ t : State, execApertureAccessRefused q s = .next t ∧ s.LogStep t := by
  unfold execApertureAccessRefused
  split
  · exact ⟨_, rfl, .kept rfl⟩
  · split <;> exact ⟨_, rfl, .kept rfl⟩

/-! ### Every command -/

/-- A row that has its effect on a condition and else changes nothing. -/
theorem State.logStep_ite {s u : State} {c : Prop} [Decidable c] (effect : s.LogStep u) :
    ∃ t : State, (if c then .next u else .next s : Host.Outcome State Fault Refusal) = .next t ∧ s.LogStep t := by
  split
  · exact ⟨u, rfl, effect⟩
  · exact ⟨s, rfl, .kept rfl⟩

/-- A row that an aperture write carries. -/
theorem State.logStep_gate (s : State) (r : Requester) (f : State → State) (effect : s.LogStep (f s)) :
    ∃ t : State, (.next (s.apertureGate r f) : Host.Outcome State Fault Refusal) = .next t ∧ s.LogStep t :=
  ⟨_, rfl, s.apertureGate_logStep r f effect⟩

/-- Whatever the command, the log changes in one of the ways of `State.LogStep`. -/
theorem exec_logStep (c : Instr) (s : State) : ∃ t : State, exec c s = .next t ∧ s.LogStep t := by
  cases c with
  | trunkRequest q => exact ⟨_, rfl, s.present_logStep q⟩
  | apertureWrite r offset v => exact ⟨_, rfl, s.present_logStep _⟩
  | apertureAccessRefused q => exact execApertureAccessRefused_logStep q s
  | takeHead => exact execTakeHead_logStep s
  | branchAck data => exact execBranchAck_logStep data s
  | branchErr => exact ⟨_, rfl, s.endItem_logStep _⟩
  | handshakeLimitExpiry => exact State.logStep_ite s.expireHandshake_logStep
  | holdExpiry i => exact State.logStep_ite (s.expireHold_logStep i)
  | warmUpExpiry => exact State.logStep_ite (.kept s.expireWarmUp_reclaim)
  | recordWrite => exact execRecordWrite_logStep s
  | recordWriteDone => exact State.logStep_ite (.kept (by simp))
  | recordWriteWait | signalWriteWait => exact State.logStep_ite (.kept (s.writeWait_reclaim _))
  | idleTimerExpiry | recordWriteFault | signalWriteDone | signalWriteFault | hardResetRelease =>
    exact State.logStep_ite (.kept rfl)
  | abandonedWriteAnswer answer => exact execAbandonedWriteAnswer_logStep answer s
  | commit r => exact s.logStep_gate r _ (s.takeCommand_logStep r 0 .commit)
  | revert r => exact s.logStep_gate r _ (s.takeCommand_logStep r 0 .revert)
  | unfence r argument => exact s.logStep_gate r _ (s.takeCommand_logStep r argument .unfence)
  | flush r => exact s.logStep_gate r _ (s.takeCommand_logStep r 0 .flush)
  | reclaimPop r => exact s.logStep_gate r _ (s.takeCommand_logStep r 0 .reclaimPop)
  | reclaimClear r => exact s.logStep_gate r _ (s.takeCommand_logStep r 0 .reclaimClear)
  | noticeStart r => exact s.logStep_gate r _ (s.takeCommand_logStep r 0 .noticeStart)
  | noticeStop r => exact s.logStep_gate r _ (s.takeCommand_logStep r 0 .noticeStop)
  | park r => exact s.logStep_gate r _ (s.takeCommand_logStep r 0 .park)
  | wake r => exact s.logStep_gate r _ (s.takeCommand_logStep r 0 .wake)
  | branchAbort r => exact s.logStep_gate r _ (s.takeCommand_logStep r 0 .branchAbort)
  | timeSet r => exact s.logStep_gate r _ (s.takeCommand_logStep r 0 .timeSet)
  | bridgeReset r => exact s.logStep_gate r _ (s.takeCommand_logStep r 0 .bridgeReset)
  | unknownCommand r code => exact s.logStep_gate r _ (s.commandWrite_logStep r code 0)
  | requesterQuotaWrite r v => exact s.logStep_gate r _ (.kept (s.writeSetting_reclaim r .requesterQuota v))
  | holdLimitWrite r v => exact s.logStep_gate r _ (.kept (s.writeSetting_reclaim r .holdLimit v))
  | managementWriteMaskWrite r v => exact s.logStep_gate r _ (.kept (s.writeSetting_reclaim r .writeMask v))
  | warmUpWrite r v => exact s.logStep_gate r _ (.kept (s.writeSetting_reclaim r .warmUp v))
  | autoParkIntervalWrite r v => exact s.logStep_gate r _ (.kept (s.writeSetting_reclaim r .autoPark v))
  | noticeConfigurationWrite r field v => exact s.logStep_gate r _ (.kept (s.configWrite_reclaim r field v))
  | consumerCounterWrite r v => exact s.logStep_gate r _ (.kept (s.consumerWrite_reclaim r v))
  | hardReset cause => exact ⟨_, rfl, .emptied rfl rfl⟩

/-- A step changes the log in one of the ways of `State.LogStep`. -/
theorem step_logStep {s t : State} (h : step s = .next t) : s.LogStep t := by
  rcases step_cases h with ⟨c, queue, run⟩ | rfl
  · obtain ⟨u, took, change⟩ := exec_logStep c { s with pending := queue }
    obtain rfl : u = t := by rw [took] at run; injection run
    exact change.congr_left rfl rfl
  · exact .kept (s.elapse_reclaim 1)

/-! ### The order of the records -/

/-- Settles O18: records that leave keep the order of the rest, and the reads of one event join at the tail. -/
theorem reclaimRecordsKeepTheirOrder : Obligations.ReclaimRecordsKeepTheirOrder := by
  intro s t step
  cases step_logStep step with
  | kept log => exact .inr ⟨s.reclaim.records, [], by simp [log], .refl _, by simp [log], rfl⟩
  | removed records next => exact .inr ⟨t.reclaim.records, [], by simp, records, by simp [next], rfl⟩
  | handed reads log =>
    refine .inr ⟨s.reclaim.records, _, congrArg ReclaimLog.records log, .refl _, congrArg ReclaimLog.nextSequence log, ?_⟩
    rw [State.recordMade_sequences, List.length_map, List.length_zipIdx]
  | emptied held log => exact .inl ⟨held, by rw [log]; rfl, by rw [log]; rfl⟩

end Sys2Proof.Machine

/-! The delivery of a read from the reclaim log, RECLAIM_POP and RECLAIM_CLEAR. -/

namespace Sys2Proof.Machine

/-! ### Late delivery -/

/-- 06 R110: a record has the key of a READ with its requester, address and masks. -/
theorem ReclaimRecord.key_eq_iff (x : ReclaimRecord) {q : TrunkRequest} (read : q.access.kind = .read) :
    x.key = q.key ↔ x.requester = q.requester ∧ x.address = q.address ∧ x.masks = q.access.masks := by
  simp [ReclaimRecord.key, TrunkRequest.key, read]

/-- 06 R110, R111: the reclaim match finds the oldest record with the key. -/
theorem State.matchReclaim_of_oldest (s : State) (q : TrunkRequest) {older newer : List ReclaimRecord} {r : ReclaimRecord}
    (log : s.reclaim.records = older ++ r :: newer) (key : r.key = q.key) (before : ∀ x ∈ older, x.key ≠ q.key) :
    s.matchReclaim q = some older.length := by
  have none_before : older.findIdx? (fun x => x.key == q.key) = none := by
    rw [List.findIdx?_eq_none_iff]
    exact fun x mem => beq_eq_false_iff_ne.mpr (before x mem)
  simp [State.matchReclaim, log, List.findIdx?_append, none_before, List.findIdx?_cons, key]

/-- 06 R112: the delivery of the record behind some older ones. -/
theorem State.lateDeliver_oldest (s : State) {older newer : List ReclaimRecord} {r : ReclaimRecord}
    (log : s.reclaim.records = older ++ r :: newer) :
    s.lateDeliver older.length =
      { State.notified { s with reclaim.records := older ++ newer } .lateDelivery (some r.window) (some r.requester)
          s.window.epoch r.address r.sequence with
        port.answer := some (.done r.data) } := by
  have found : s.reclaim.records[older.length]? = some r := by simp [log]
  have rest : s.reclaim.records.eraseIdx older.length = older ++ newer := by
    rw [log, List.eraseIdx_append_of_length_le le_rfl]; simp
  simp only [State.lateDeliver, found, rest, State.generate_eq_notified]
  rfl

/-- Settles O29: no live entry answers, and the reclaim match finds the oldest record. -/
theorem lateDeliveryAnswersFromTheOldestRecord : Obligations.LateDeliveryAnswersFromTheOldestRecord := by
  intro s q older newer r out formed outside fresh read log requester address masks before
  have matched : s.matchReclaim q = some older.length :=
    s.matchReclaim_of_oldest q log ((r.key_eq_iff read).mpr ⟨requester, address, masks⟩)
      fun x mem => mt (x.key_eq_iff read).mp (before x mem)
  have run : s.present q = s.lateDeliver older.length := by
    rw [s.present_outside q out formed outside, s.matchOrPass_pass q ((s.matchLive_eq_none q).mpr fresh)]
    simp only [State.reclaimOrWindow, read, matched]
  rw [exec, execTrunkRequest, run, s.lateDeliver_oldest log]

/-! ### RECLAIM_POP and RECLAIM_CLEAR -/

/-- Settles O57: each command's effect under the gate. -/
theorem reclaimCommandsRemoveRecords : Obligations.ReclaimCommandsRemoveRecords := by
  intro s r accepted
  refine ⟨fun head rest log => ?popped, fun empty => ?refused, ?cleared⟩
  case popped =>
    rw [exec, execReclaimPop, s.apertureGate_accepted r _ accepted, s.reclaimPop_cons r log, State.resultDone_answer]
  case refused =>
    rw [exec, execReclaimPop, s.apertureGate_accepted r _ accepted, s.reclaimPop_nil r empty, State.resultRefused_answer]
  case cleared =>
    rw [exec, execReclaimClear, s.apertureGate_accepted r _ accepted, State.reclaimClear, State.resultDone_answer]

end Sys2Proof.Machine

/-! The laws of the notice engine, event by event. -/

namespace Sys2Proof.Machine

/-! ### The laws by the engine's condition -/

/-- 07 R122 to R133: the engine's state and its ring are sound. -/
def State.EngineLawful (s : State) : Prop := s.EngineSound ∧ s.RingSafe

section
variable {s t : State}

/-- The laws speak of the notice engine alone. -/
theorem State.EngineLawful.of_notice (lawful : s.EngineLawful) (same : t.notice = s.notice) : t.EngineLawful := by
  simpa only [State.EngineLawful, State.EngineSound, State.RingSafe, same] using lawful

theorem State.flightKind_eq_some {kind : FlightKind} :
    s.flightKind = some kind ↔ ∃ f, s.notice.flight = some f ∧ f.kind = kind := Option.map_eq_some_iff

theorem State.flightKind_of {f : Flight} {kind : FlightKind} (found : s.notice.flight = some f) (same : f.kind = kind) :
    s.flightKind = some kind := State.flightKind_eq_some.mpr ⟨f, found, same⟩

/-- The write in flight has the one kind. -/
theorem State.kind_of_mem {kind : FlightKind} (flight : s.flightKind = some kind) {f : Flight} (mem : f ∈ s.notice.flight) :
    f.kind = kind := by
  obtain ⟨g, found, rfl⟩ := State.flightKind_eq_some.mp flight
  rw [Option.mem_unique mem found]

/-- 07 R122, R131: an engine that runs or is OFF and presents no write of its own. -/
theorem State.engineSound_of_unlive (unstalled : s.notice.state ≠ .stalled) (reason : s.notice.stallReason = .none)
    (off : s.notice.state = .off → s.notice.backlog = []) (unlive : ∀ f ∈ s.notice.flight, f.kind.live = false)
    (waits : s.notice.waitCount ≤ 64) : s.EngineSound := by
  refine ⟨by simp [reason, unstalled], fun stalled => absurd stalled unstalled, fun o => ⟨off o, unlive⟩, ?_,
    by simp [reason], fun f mem live => by simp [unlive f mem] at live, waits⟩
  rintro ⟨f, mem, record⟩
  have dead := unlive f mem
  rw [record] at dead
  cases dead

/-- 07 R124, R128: a running engine that presents a write of its own. -/
theorem State.engineSound_of_live {kind : FlightKind} (running : s.notice.state = .running)
    (reason : s.notice.stallReason = .none) (flight : s.flightKind = some kind)
    (head : kind = .record → s.notice.backlog ≠ []) (waits : s.notice.waitCount < 64) : s.EngineSound := by
  refine ⟨by simp [reason, running], by simp [running], by simp [running], ?_, by simp [reason], fun _ _ _ => waits, waits.le⟩
  rintro ⟨f, mem, record⟩
  exact head ((State.kind_of_mem flight mem).symm.trans record)

/-- 07 R126: a stalled engine. -/
theorem State.engineSound_of_stalled (stalled : s.notice.state = .stalled) (reason : s.notice.stallReason ≠ .none)
    (flight : s.notice.flight = none)
    (head : s.notice.stallReason = .recordFault ∨ s.notice.stallReason = .recordWaitLimit → s.notice.backlog ≠ [])
    (waits : s.notice.waitCount ≤ 64) : s.EngineSound :=
  ⟨by simp [reason, stalled], fun _ => flight, by simp [stalled], by simp [flight], head, by simp [flight], waits⟩

/-- 07 R126: only a stalled engine has a stall reason. -/
theorem State.EngineSound.reason (sound : s.EngineSound) (unstalled : s.notice.state ≠ .stalled) :
    s.notice.stallReason = .none := sound.1.mpr unstalled

theorem State.EngineSound.waits (sound : s.EngineSound) : s.notice.waitCount ≤ 64 := by
  obtain ⟨-, -, -, -, -, -, waits⟩ := sound
  exact waits

/-- 07 R126: a write is in flight out of STALLED alone. -/
theorem State.EngineSound.unstalled (sound : s.EngineSound) {kind : FlightKind} (flight : s.flightKind = some kind) :
    s.notice.state ≠ .stalled := by
  obtain ⟨-, empty, -⟩ := sound
  intro stalled
  simp [State.flightKind, empty stalled] at flight

/-- 07 R122 to R128: the engine presents a write of its own while RUNNING alone, up to 64 times. -/
theorem State.EngineSound.of_live (sound : s.EngineSound) {kind : FlightKind} (flight : s.flightKind = some kind)
    (live : kind.live = true) : s.notice.state = .running ∧ s.notice.waitCount < 64 := by
  have unstalled := sound.unstalled flight
  have on := (s.engineOn_of_flightKind flight live).state sound
  obtain ⟨f, mem, rfl⟩ := State.flightKind_eq_some.mp flight
  obtain ⟨-, -, -, -, -, waits, -⟩ := sound
  refine ⟨?_, waits f mem live⟩
  cases state : s.notice.state with
  | off => exact absurd state on
  | stalled => exact absurd state unstalled
  | running => rfl

/-- 07 R124: the notice a record write carries is kept until it is delivered. -/
theorem State.EngineSound.head_of_record (sound : s.EngineSound) (flight : s.flightKind = some .record) :
    s.notice.backlog ≠ [] := by
  obtain ⟨-, -, -, head, -⟩ := sound
  obtain ⟨f, mem, kind⟩ := State.flightKind_eq_some.mp flight
  exact head ⟨f, mem, kind⟩

/-! ### The ring -/

/-- 07 R124: the ring stays safe while the occupancy does not rise and no further record may land. -/
theorem State.RingSafe.of_counters (safe : s.RingSafe) (on : t.notice.state ≠ .off → s.notice.state ≠ .off)
    (size : t.notice.ringOrder = s.notice.ringOrder) (occupancy : t.notice.occupancy ≤ s.notice.occupancy)
    (pending : t.notice.recordPending = true → s.notice.recordPending = true) : t.RingSafe := by
  intro running
  obtain ⟨within, room⟩ := safe (on running)
  have same : t.notice.ringSize = s.notice.ringSize := by rw [NoticeEngine.ringSize, size]; rfl
  rw [same]
  exact ⟨occupancy.trans within, fun lands => occupancy.trans_lt (room (pending lands))⟩

/-- 07 R131: in OFF the ring is of no concern. -/
theorem State.ringSafe_of_off (off : t.notice.state = .off) : t.RingSafe := fun on => absurd off on

/-- 07 R124: the occupancy counts one record more, as the largest ring has fewer than 2^16 places. -/
theorem NoticeEngine.occupancy_landed (n : NoticeEngine) (room : n.occupancy < n.ringSize) :
    (n.producer + 1 - n.consumer).toNat = n.occupancy + 1 := by
  have order : n.ringSize ≤ 2 ^ 15 := Nat.pow_le_pow_right (by omega) (Nat.le_of_lt_succ n.ringOrder.isLt)
  have counts : n.producer + 1 - n.consumer = n.producer - n.consumer + 1 := by
    rw [BitVec.sub_eq_add_neg, BitVec.sub_eq_add_neg, BitVec.add_assoc, BitVec.add_comm 1, BitVec.add_assoc]
  have occupancy : (n.producer - n.consumer).toNat = n.occupancy := rfl
  rw [counts, BitVec.toNat_add, occupancy]
  simp
  omega

/-- 07 R124, R125: a record that may land has its place in the ring. -/
theorem State.RingSafe.recordLanded (safe : s.RingSafe) (pending : s.notice.recordPending = true) : s.recordLanded.RingSafe := by
  intro on
  obtain ⟨-, room⟩ := safe on
  refine ⟨?_, fun lands => by cases lands⟩
  have landed : s.recordLanded.notice.occupancy = s.notice.occupancy + 1 := s.notice.occupancy_landed (room pending)
  rw [landed]
  exact room pending

theorem State.recordPending_of_flightKind {kind : FlightKind} (flight : s.flightKind = some kind)
    (lands : kind = .record ∨ kind = .abandoned true false) : s.notice.recordPending = true := by
  obtain ⟨f, found, rfl⟩ := State.flightKind_eq_some.mp flight
  simpa [NoticeEngine.recordPending, found] using lands

/-! ### Notices -/

/-- 07 R123: a notice generated removes none. -/
theorem State.generate_backlog_ne_nil (s : State) (e : Event) (held : s.notice.backlog ≠ []) :
    (s.generate e).notice.backlog ≠ [] := by
  rw [State.generate_backlog]
  split
  · exact List.append_ne_nil_of_left_ne_nil held _
  · exact held

/-- 07 R123: an engine in OFF takes no notice. -/
theorem State.generate_backlog_off (s : State) (e : Event) (off : s.notice.state = .off) :
    (s.generate e).notice.backlog = s.notice.backlog := by
  simp [NoticeEngine.takesNotice, off]

/-- 07 R120, R123. -/
theorem State.EngineLawful.generate (lawful : s.EngineLawful) (e : Event) : (s.generate e).EngineLawful := by
  obtain ⟨⟨reason, stalled, off, record, head, waits, limit⟩, safe⟩ := lawful
  refine ⟨⟨reason, stalled, fun o => ?_, fun f => s.generate_backlog_ne_nil e (record f),
    fun r => s.generate_backlog_ne_nil e (head r), waits, limit⟩, safe⟩
  rw [s.generate_backlog_off e o]
  exact off o

/-! ### Record and signal writes -/

/-- 07 R124. -/
theorem State.EngineLawful.recordWrite (lawful : s.EngineLawful) {head : Notice} {rest : List Notice}
    (held : s.notice.backlog = head :: rest) (due : s.notice.recordDue = true) (w : EngineWrite) :
    State.EngineLawful { s with notice.flight := some { kind := .record, presented := w }, notice.waitCount := 0 } := by
  obtain ⟨sound, safe⟩ := lawful
  simp only [NoticeEngine.recordDue, Bool.and_eq_true, beq_iff_eq, decide_eq_true_eq] at due
  obtain ⟨⟨⟨running, -⟩, -⟩, room⟩ := due
  refine ⟨State.engineSound_of_live (kind := .record) running (sound.reason (by simp [running])) rfl
    (fun _ => by simp [held]) (by simp), fun on => ⟨(safe on).1, fun _ => room⟩⟩

/-- 07 R125 steps 1 to 3. -/
theorem State.EngineLawful.recordDelivered (lawful : s.EngineLawful) (flight : s.flightKind = some .record) :
    s.recordDelivered.EngineLawful := by
  obtain ⟨sound, safe⟩ := lawful
  have running := (sound.of_live flight rfl).1
  exact ⟨State.engineSound_of_unlive (sound.unstalled flight) (sound.reason (sound.unstalled flight))
    (fun off => by cases running.symm.trans off) (by simp [State.recordDelivered, State.recordLanded]) (Nat.zero_le _),
    (safe.recordLanded (State.recordPending_of_flightKind flight (.inl rfl)))⟩

/-- 07 R125 step 4. -/
theorem State.EngineLawful.ringHalf (lawful : s.EngineLawful) : s.ringHalf.EngineLawful := by
  unfold State.ringHalf
  split
  · have disarmed : State.EngineLawful { s with notice.halfArmed := false } := lawful
    exact disarmed.generate _
  · exact lawful

@[simp] theorem State.ringHalf_state (s : State) : s.ringHalf.notice.state = s.notice.state := by
  unfold State.ringHalf; split <;> rfl

/-- 07 R125 step 5, R128. -/
theorem State.EngineLawful.issueSignal (lawful : s.EngineLawful) (running : s.notice.state = .running) :
    s.issueSignal.EngineLawful := by
  unfold State.issueSignal
  split
  · obtain ⟨sound, safe⟩ := lawful
    exact ⟨State.engineSound_of_live (kind := .signal) running (sound.reason (by simp [running])) rfl nofun
      (by simp), safe.of_counters id rfl le_rfl (by simp [NoticeEngine.recordPending])⟩
  · exact lawful

/-- 07 R125 steps 4 and 5. -/
theorem State.EngineLawful.ringHalf_issueSignal (lawful : s.EngineLawful) (running : s.notice.state = .running) :
    s.ringHalf.issueSignal.EngineLawful :=
  lawful.ringHalf.issueSignal (by rw [s.ringHalf_state, running])

/-- 07 R128, R131: the write is over, and nothing else changes. -/
theorem State.EngineLawful.flightOver (lawful : s.EngineLawful) : State.EngineLawful { s with notice.flight := none } := by
  obtain ⟨⟨reason, -, off, -, head, -, limit⟩, safe⟩ := lawful
  exact ⟨⟨reason, fun _ => rfl, fun o => ⟨(off o).1, nofun⟩, by simp, head, by simp, limit⟩,
    safe.of_counters id rfl le_rfl (by simp [NoticeEngine.recordPending])⟩

/-- 07 R126: a live write's engine stalls, with the record write's notice still at the head. -/
theorem State.EngineLawful.stall (lawful : s.EngineLawful) {reason : StallReason} (cause : reason ≠ .none)
    (on : s.notice.state ≠ .off)
    (head : reason = .recordFault ∨ reason = .recordWaitLimit → s.notice.backlog ≠ []) : (s.stall reason).EngineLawful := by
  obtain ⟨sound, safe⟩ := lawful
  exact ⟨State.engineSound_of_stalled rfl cause rfl head sound.waits,
    safe.of_counters (fun _ => on) rfl le_rfl (by simp [State.stall, NoticeEngine.recordPending])⟩

/-- 07 R125, R128: a WAIT below the limit. -/
theorem State.writeWait_again (s : State) (reason : StallReason) (below : s.notice.waitCount + 1 < 64) :
    s.writeWait reason = { s with notice.waitCount := s.notice.waitCount + 1 } := if_pos below

/-- 07 R125, R126, R128: the WAIT that reaches the limit. -/
theorem State.writeWait_limit (s : State) (reason : StallReason) (last : ¬s.notice.waitCount + 1 < 64) :
    s.writeWait reason = State.stall { s with notice.waitCount := s.notice.waitCount + 1 } reason := if_neg last

/-- 07 R125, R128: the next WAIT of a live write. -/
theorem State.EngineLawful.writeWait (lawful : s.EngineLawful) {kind : FlightKind} {reason : StallReason}
    (flight : s.flightKind = some kind) (live : kind.live = true) (cause : reason ≠ .none)
    (head : reason = .recordFault ∨ reason = .recordWaitLimit → s.notice.backlog ≠ []) : (s.writeWait reason).EngineLawful := by
  obtain ⟨sound, safe⟩ := lawful
  obtain ⟨running, waits⟩ := sound.of_live flight live
  by_cases below : s.notice.waitCount + 1 < 64
  · rw [s.writeWait_again reason below]
    refine ⟨State.engineSound_of_live (kind := kind) running (sound.reason (sound.unstalled flight)) flight ?_ below, safe⟩
    rintro rfl
    exact sound.head_of_record flight
  · rw [s.writeWait_limit reason below]
    exact ⟨State.engineSound_of_stalled rfl cause rfl head waits,
      safe.of_counters (fun _ => by simp [running]) rfl le_rfl (by simp [State.stall, NoticeEngine.recordPending])⟩

/-! ### Abandoned writes -/

/-- 07 R131: the record of an abandoned write lands. -/
theorem State.EngineLawful.recordLanded (lawful : s.EngineLawful) (pending : s.notice.recordPending = true) :
    s.recordLanded.EngineLawful :=
  ⟨lawful.flightOver.1, lawful.2.recordLanded pending⟩

/-- 07 R131, R133: no abandoned write is one the engine presents. -/
theorem Flight.abandon_live (f : Flight) : f.abandon.kind.live = false := by
  obtain ⟨kind, w⟩ := f
  cases kind <;> rfl

/-- 07 R131, R133: abandoning a write leaves what its DONE does to the producer counter. -/
theorem Flight.abandon_lands (f : Flight) :
    (f.abandon.kind == .record || f.abandon.kind == .abandoned true false)
      = (f.kind == .record || f.kind == .abandoned true false) := by
  obtain ⟨kind, w⟩ := f
  cases kind <;> rfl

theorem NoticeEngine.recordPending_abandon (n : NoticeEngine) :
    NoticeEngine.recordPending { n with flight := n.flight.map Flight.abandon } = n.recordPending := by
  simp only [NoticeEngine.recordPending]
  cases n.flight with
  | none => rfl
  | some f => exact f.abandon_lands

theorem flight_abandon_live (flight : Option Flight) : ∀ f ∈ flight.map Flight.abandon, f.kind.live = false := by
  intro f mem
  obtain ⟨g, -, rfl⟩ := Option.map_eq_some_iff.mp mem
  exact g.abandon_live

/-! ### NOTICE_START, NOTICE_STOP and the resets -/

/-- 07 R131: after a start no write of before lands. -/
theorem Flight.restart_kind {f : Flight} (dead : f.kind.live = false) : ∃ wasRecord, f.restart.kind = .abandoned wasRecord true := by
  obtain ⟨kind, w⟩ := f
  cases kind with
  | record | signal => cases dead
  | abandoned wasRecord restarted => exact ⟨wasRecord, rfl⟩

/-- 07 R122. -/
theorem State.EngineLawful.startEngine (lawful : s.EngineLawful) (off : s.notice.state = .off) : s.startEngine.EngineLawful := by
  obtain ⟨⟨-, -, idle, -⟩, -⟩ := lawful
  have restarted : ∀ f ∈ s.startEngine.notice.flight, ∃ wasRecord, f.kind = .abandoned wasRecord true := by
    intro f mem
    obtain ⟨g, found, rfl⟩ := Option.map_eq_some_iff.mp mem
    exact Flight.restart_kind ((idle off).2 g found)
  have empty : s.startEngine.notice.occupancy < s.startEngine.notice.ringSize := by
    simp [State.startEngine, NoticeEngine.occupancy, NoticeEngine.ringSize]
  refine ⟨State.engineSound_of_unlive nofun rfl nofun (fun f mem => ?_) (Nat.zero_le _), fun _ => ⟨empty.le, fun _ => empty⟩⟩
  obtain ⟨_, kind⟩ := restarted f mem
  rw [kind]
  rfl

/-- 07 R127. -/
theorem State.EngineLawful.resumeEngine (lawful : s.EngineLawful) (stalled : s.notice.state = .stalled) :
    s.resumeEngine.EngineLawful := by
  obtain ⟨⟨-, empty, -⟩, safe⟩ := lawful
  refine ⟨State.engineSound_of_unlive nofun rfl nofun (fun f mem => ?_) (Nat.zero_le _),
    safe.of_counters (fun _ => by simp [stalled]) rfl le_rfl id⟩
  rw [State.resumeEngine, empty stalled] at mem
  cases mem

/-- 07 R131. -/
theorem State.EngineLawful.noticeStop (lawful : s.EngineLawful) (r : Requester) : (s.noticeStop r).EngineLawful :=
  ⟨State.engineSound_of_unlive nofun rfl (fun _ => rfl) (flight_abandon_live s.notice.flight) lawful.1.waits,
    State.ringSafe_of_off rfl⟩

/-- 07 R133. -/
theorem State.EngineLawful.softReset (lawful : s.EngineLawful) (reset : t.notice = s.notice.softReset) : t.EngineLawful := by
  have state : t.notice.state = if s.notice.state = .off then .off else .running := by rw [reset]; rfl
  refine ⟨State.engineSound_of_unlive ?_ (by rw [reset]; rfl) (fun _ => by rw [reset]; rfl) ?_ (by rw [reset]; exact Nat.zero_le _),
    lawful.2.of_counters ?_ (by rw [reset]; rfl) (by rw [reset]; exact le_rfl) ?_⟩
  · rw [state]; split <;> simp
  · rw [reset]; exact flight_abandon_live s.notice.flight
  · rw [state]; split <;> simp_all
  · rw [reset, ← s.notice.recordPending_abandon]; exact id

/-! ### The configuration -/

/-- 07 R122: in OFF the configuration is of no concern to the ring. -/
theorem State.EngineLawful.withField (lawful : s.EngineLawful) (off : s.notice.state = .off) (field : ConfigField) (v : Word) :
    State.EngineLawful { s with notice := s.notice.withField field v } := by
  cases field <;> exact ⟨lawful.1, State.ringSafe_of_off off⟩

end

end Sys2Proof.Machine

/-! What one step can do to the notice engine's laws, the notice configuration and the settings. -/

namespace Sys2Proof.Machine

/-! ### The configuration and the settings -/

/-- 07 R122: the notice configuration. -/
structure NoticeConfiguration where
  ringBase : Word
  ringOrder : BitVec 4
  signalAddress : Word
  signalValue : Word
  signalEnable : Bool
  ownRequester : Requester

/-- 09 R154, R155: the settings. -/
structure Settings where
  quota : BitVec 3
  holdLimit : BitVec 16
  writeMask : BitVec 16
  warmUp : BitVec 6
  autoPark : BitVec 8

/-- The configuration a state holds. -/
def State.configuration (s : State) : NoticeConfiguration :=
  { ringBase := s.notice.ringBase, ringOrder := s.notice.ringOrder, signalAddress := s.notice.signalAddress,
    signalValue := s.notice.signalValue, signalEnable := s.notice.signalEnable, ownRequester := s.notice.ownRequester }

/-- The settings a state holds. -/
def State.settings (s : State) : Settings :=
  { quota := s.mgmt.quota, holdLimit := s.mgmt.holdLimit, writeMask := s.mgmt.writeMask, warmUp := s.mgmt.warmUp,
    autoPark := s.mgmt.autoPark }

/-- 09 R151: a write of this origin was taken. -/
def State.WriteDone (s t : State) (o : Origin) : Prop :=
  t.mgmt.result.origin = o ∧ t.mgmt.result.outcome = .done ∧ t.mgmt.result.serial = s.mgmt.result.serial + 1

/-- What every event keeps but an aperture write of the configuration or of a setting, and a hard reset. -/
structure State.Steady (s t : State) : Prop where
  lawful : s.EngineLawful → t.EngineLawful
  configuration : t.configuration = s.configuration
  settings : t.settings = s.settings

/-- What every step does: it keeps the engine's laws, and changes the configuration and the settings with their cause. -/
structure State.Governed (s t : State) : Prop where
  lawful : s.EngineLawful → t.EngineLawful
  configuration : t.configuration = s.configuration ∨ (s.notice.state = .off ∧ s.WriteDone t .noticeWrite) ∨ t.port.held = true
  settings : t.settings = s.settings ∨ s.WriteDone t .settingWrite ∨ t.port.held = true

section
variable {s t u : State}

theorem State.Steady.governed (steady : s.Steady t) : s.Governed t :=
  ⟨steady.lawful, .inl steady.configuration, .inl steady.settings⟩

theorem State.Steady.trans (first : s.Steady t) (second : t.Steady u) : s.Steady u where
  lawful := second.lawful ∘ first.lawful
  configuration := second.configuration.trans first.configuration
  settings := second.settings.trans first.settings

/-- An event that leaves the notice engine and the settings. -/
theorem State.Steady.of_same (notice : t.notice = s.notice) (settings : t.settings = s.settings) : s.Steady t :=
  ⟨fun lawful => lawful.of_notice notice, by simp only [State.configuration, notice], settings⟩

theorem State.Steady.of_frame (notice : t.notice = s.notice) (mgmt : t.mgmt = s.mgmt) : s.Steady t :=
  .of_same notice (by simp only [State.settings, mgmt])

/-- Of the state before it, steadiness rests on the notice engine and the management unit. -/
theorem State.Steady.congr_left (steady : u.Steady t) (notice : u.notice = s.notice) (mgmt : u.mgmt = s.mgmt) : s.Steady t :=
  (State.Steady.of_frame notice mgmt).trans steady

theorem State.Governed.of_same (notice : t.notice = s.notice) (settings : t.settings = s.settings) : s.Governed t :=
  (State.Steady.of_same notice settings).governed

theorem State.Steady.refl (s : State) : s.Steady s := .of_frame rfl rfl

/-- 08 R137: the answer given governs nothing. -/
theorem State.Governed.answer (change : s.Governed t) (a : Answer) : s.Governed (t.answer a) :=
  ⟨fun lawful => (change.lawful lawful).of_notice rfl, change.configuration, change.settings⟩

end

/-! ### Notices, disposals and the end of an item -/

theorem State.generate_steady (s : State) (e : Event) : s.Steady (s.generate e) := ⟨fun lawful => lawful.generate e, rfl, rfl⟩

/-- 02 R37. -/
theorem State.dispose_steady (s : State) (e : Entry) (r : Result) : s.Steady (s.dispose e r) := by
  unfold State.dispose
  split
  · split
    · exact (State.generate_steady _ _).congr_left (by simp) (by simp)
    · exact s.generate_steady _
  · exact s.generate_steady _

/-- 02 R42. -/
theorem State.disposeCancelled_steady (s : State) (e : Option Entry) (r : Result) : s.Steady (s.disposeCancelled e r) := by
  cases e with
  | none => exact .refl s
  | some e =>
    simp only [State.disposeCancelled]
    split
    · exact s.dispose_steady e r
    · exact .refl s

/-- 04 R79 steps 3 and 4. -/
theorem State.engineReport_steady (s : State) (ending : Ending) (it : Item) (p : Progress) (index : BranchIndex) :
    s.Steady (s.engineReport ending it p index) := by
  cases ending with
  | ok =>
    simp only [State.engineReport]
    split
    · exact .refl s
    · exact s.generate_steady _
  | device | skipped => exact s.generate_steady _
  | fenced =>
    rw [State.engineReport, State.fenceHandling_eq]
    exact (State.generate_steady _ _).congr_left rfl rfl

/-- 04 R84. -/
theorem State.settle_steady (s t : State) : t.Steady (State.settle s t) := by
  obtain ⟨-, -, -, -, notice, mgmt, -⟩ := State.settle_frame s t
  exact .of_frame notice mgmt

/-- 04 R79. -/
theorem State.endItem_steady (s : State) (ending : Ending) : s.Steady (s.endItem ending) := by
  rcases s.endItem_cases ending with same | ⟨p, it, active, item⟩
  · rw [same]; exact .refl s
  · rw [s.endItem_eq ending active item]
    obtain ⟨-, -, notice, mgmt, -⟩ := State.ownerTakes_frame { s with branch.active := none } p.item
      (endResult ending it.request.access it.route.fill p.assembly)
    refine State.Steady.congr_left ?_ notice mgmt
    exact (State.engineReport_steady ..).trans <| (State.disposeCancelled_steady ..).trans (State.settle_steady ..)

/-- 05 R90. -/
theorem State.expireHandshake_steady (s : State) : s.Steady s.expireHandshake := by
  unfold State.expireHandshake
  split
  · exact .refl s
  · split
    · exact .refl s
    · split
      · exact .of_frame rfl rfl
      · split <;> exact s.endItem_steady _

/-- 02 R37. -/
theorem State.expireHold_steady (s : State) (i : Slot) : s.Steady (s.expireHold i) := by
  unfold State.expireHold
  split
  · split
    · exact (State.dispose_steady _ _ _).congr_left rfl rfl
    · exact .refl s
  · exact .refl s

/-- 04 R69. -/
theorem execTakeHead_steady (s : State) : ∃ t : State, execTakeHead s = .next t ∧ s.Steady t := by
  unfold execTakeHead
  split
  · next r _ _ =>
    refine ⟨_, rfl, ?_⟩
    cases r <;> exact .of_frame rfl rfl
  · exact ⟨s, rfl, .refl s⟩

/-- 04 R76. -/
theorem execBranchAck_steady (data : HalfWord) (s : State) : ∃ t : State, execBranchAck data s = .next t ∧ s.Steady t := by
  unfold execBranchAck
  split
  · exact ⟨s, rfl, .refl s⟩
  · split
    · exact ⟨s, rfl, .refl s⟩
    · dsimp only
      split
      · exact ⟨_, rfl, .of_frame rfl rfl⟩
      · exact ⟨_, rfl, (State.endItem_steady _ _).congr_left rfl rfl⟩

/-! ### The notice engine's own rows -/

/-- 07 R125 step 4: RING_HALF is no configuration. -/
@[simp] theorem State.ringHalf_configuration (s : State) : s.ringHalf.configuration = s.configuration := by
  unfold State.ringHalf; split <;> rfl

@[simp] theorem State.issueSignal_configuration (s : State) : s.issueSignal.configuration = s.configuration := by
  unfold State.issueSignal; split <;> rfl

@[simp] theorem State.writeWait_configuration (s : State) (reason : StallReason) :
    (s.writeWait reason).configuration = s.configuration := by
  simp only [State.writeWait]; split <;> rfl

/-- The settings are no part of the notice engine. -/
theorem State.settings_of_mgmt {s t : State} (mgmt : t.mgmt = s.mgmt) : t.settings = s.settings := by
  simp only [State.settings, mgmt]

/-- 07 R124. -/
theorem execRecordWrite_steady (s : State) : ∃ t : State, execRecordWrite s = .next t ∧ s.Steady t := by
  unfold execRecordWrite
  split
  · next held =>
    split
    · next due => exact ⟨_, rfl, fun lawful => lawful.recordWrite held due _, rfl, rfl⟩
    · exact ⟨s, rfl, .refl s⟩
  · exact ⟨s, rfl, .refl s⟩

/-- 07 R125 steps 4 and 5. -/
theorem State.ringHalf_issueSignal_kept (s : State) :
    s.ringHalf.issueSignal.configuration = s.configuration ∧ s.ringHalf.issueSignal.settings = s.settings :=
  ⟨by rw [State.issueSignal_configuration, State.ringHalf_configuration], State.settings_of_mgmt (by simp)⟩

/-- 07 R125. -/
theorem State.recordDone_steady (s : State) (flight : s.flightKind = some .record) :
    s.Steady s.recordDelivered.ringHalf.issueSignal where
  lawful lawful := (lawful.recordDelivered flight).ringHalf_issueSignal (lawful.1.of_live flight rfl).1
  configuration := s.recordDelivered.ringHalf_issueSignal_kept.1
  settings := s.recordDelivered.ringHalf_issueSignal_kept.2

/-- 07 R125, R128: a WAIT of a live write. -/
theorem State.writeWait_steady (s : State) {kind : FlightKind} {reason : StallReason} (flight : s.flightKind = some kind)
    (live : kind.live = true) (cause : reason ≠ .none)
    (record : reason = .recordFault ∨ reason = .recordWaitLimit → kind = .record) : s.Steady (s.writeWait reason) where
  lawful lawful := lawful.writeWait flight live cause fun r => lawful.1.head_of_record (record r ▸ flight)
  configuration := s.writeWait_configuration reason
  settings := State.settings_of_mgmt (by simp)

/-- 07 R125, R128: a FAULT of a live write. -/
theorem State.stall_steady (s : State) {kind : FlightKind} {reason : StallReason} (flight : s.flightKind = some kind)
    (live : kind.live = true) (cause : reason ≠ .none)
    (record : reason = .recordFault ∨ reason = .recordWaitLimit → kind = .record) : s.Steady (s.stall reason) where
  lawful lawful := lawful.stall cause ((s.engineOn_of_flightKind flight live).state lawful.1) fun r =>
    lawful.1.head_of_record (record r ▸ flight)
  configuration := rfl
  settings := rfl

theorem State.flightOver_steady (s : State) : s.Steady { s with notice.flight := none } :=
  ⟨fun lawful => lawful.flightOver, rfl, rfl⟩

/-- 07 R131. -/
theorem State.abandonedDone_steady (s : State) {restarted : Bool} (flight : s.flightKind = some (.abandoned true restarted)) :
    s.Steady (s.abandonedDone restarted) := by
  unfold State.abandonedDone
  split
  · next off => exact ⟨fun lawful => ⟨lawful.flightOver.1, State.ringSafe_of_off off⟩, rfl, rfl⟩
  · next running =>
    split
    · exact s.flightOver_steady
    · next fresh =>
      have pending := State.recordPending_of_flightKind flight (.inr (by simp [fresh]))
      obtain ⟨configuration, settings⟩ := s.recordLanded.ringHalf_issueSignal_kept
      exact ⟨fun lawful => (lawful.recordLanded pending).ringHalf_issueSignal running, configuration, settings⟩
  · next stalled =>
    have unlawful : ¬s.EngineLawful := fun lawful => lawful.1.unstalled flight stalled
    split <;> exact ⟨fun lawful => absurd lawful unlawful, rfl, rfl⟩

theorem execAbandonedWriteAnswer_steady (answer : WriteAnswer) (s : State) :
    ∃ t : State, execAbandonedWriteAnswer answer s = .next t ∧ s.Steady t := by
  unfold execAbandonedWriteAnswer
  split
  · next flight =>
    split
    · next done =>
      obtain ⟨rfl, -⟩ := done
      exact ⟨_, rfl, s.abandonedDone_steady flight⟩
    · exact ⟨_, rfl, s.flightOver_steady⟩
  · exact ⟨s, rfl, .refl s⟩

/-- 07 R122, R127. -/
theorem State.noticeStart_steady (s : State) (r : Requester) : s.Steady (s.noticeStart r) := by
  unfold State.noticeStart
  split
  · next off =>
    split
    · exact .of_same rfl rfl
    · split
      · exact .of_same rfl rfl
      · exact ⟨fun lawful => (lawful.startEngine off).of_notice rfl, rfl, rfl⟩
  · next stalled => exact ⟨fun lawful => (lawful.resumeEngine stalled).of_notice rfl, rfl, rfl⟩
  · exact .of_same rfl rfl

/-- 07 R130: the occupancy falls or stays. -/
theorem State.consumerWrite_steady (s : State) (r : Requester) (v : Word) : s.Steady (s.consumerWrite r v) := by
  simp only [State.consumerWrite]
  split
  · next toward => exact ⟨fun ⟨sound, safe⟩ => ⟨sound, safe.of_counters id rfl toward id⟩, rfl, rfl⟩
  · exact .of_same rfl rfl

/-! ### Other commands -/

/-- 07 R123: the notices of the reads lost. -/
theorem State.overflowed_steady (s : State) (reads : List (Entry × List Word)) : s.Steady (s.overflowed reads) := by
  induction reads using List.reverseRecOn with
  | nil => exact .refl s
  | append_singleton reads x ih =>
    have told := (s.overflowed reads).generate_steady
      { kind := .reclaimOverflow, window := some x.1.route.window, requester := some x.1.request.requester,
        epoch := s.window.epoch, detail := x.1.request.address, aux := BitVec.ofNat 16 x.1.request.access.count }
    rw [State.generate_eq_notified] at told
    rw [State.overflowed_append]
    exact ih.trans told

/-- 02 R40. -/
theorem State.flush_steady (s : State) (r : Requester) : s.Steady (s.flush r) := by
  have flushed : s.Steady (s.flushed (List.finRange 8)) :=
    (s.overflowed_steady ((s.readsOf (List.finRange 8)).drop s.room)).trans
      (.of_frame rfl (s.overflowed_mgmt _).symm)
  rw [s.flush_eq r]
  exact flushed.trans <| (State.generate_steady _ _).trans <| (State.settle_steady ..).trans (.of_same rfl rfl)

/-- 09 R159. -/
theorem State.bridgeReset_steady (s : State) (r : Requester) : s.Steady (s.bridgeReset r) := by
  rw [s.bridgeReset_eq r]
  have reset : s.Steady (State.softResetBlocks { s with reclaim := s.logWith s.undelivered }) :=
    ⟨fun lawful => lawful.softReset rfl, rfl, rfl⟩
  exact reset.trans <| (State.generate_steady _ _).trans (.of_same rfl rfl)

/-- 05 R100. -/
theorem State.branchAbort_steady (s : State) (r : Requester) : s.Steady (s.branchAbort r) := by
  unfold State.branchAbort
  split
  · exact (s.endItem_steady _).trans (.of_same rfl rfl)
  · exact .of_same rfl rfl

/-- 01 R10, R11. -/
theorem State.commit_steady (s : State) (r : Requester) : s.Steady (s.commit r) := by
  unfold State.commit
  split
  · have told : s.Steady (s.install.generate (s.committedEvent r)) := (State.generate_steady _ _).congr_left rfl rfl
    exact told.trans (.of_same rfl rfl)
  · exact (s.generate_steady _).trans (.of_same rfl rfl)

theorem State.takeCommand_steady (s : State) (r : Requester) (argument : BitVec 8) (c : Command) :
    s.Steady (s.takeCommand r argument c) := by
  cases c with
  | commit => exact s.commit_steady r
  | unfence =>
    simp only [State.takeCommand, State.unfence]
    split
    · split <;> exact .of_same rfl rfl
    · exact .of_same rfl rfl
  | flush => exact s.flush_steady r
  | reclaimPop => simp only [State.takeCommand, State.reclaimPop]; split <;> exact .of_same rfl rfl
  | noticeStart => exact s.noticeStart_steady r
  | noticeStop => exact ⟨fun lawful => lawful.noticeStop r, rfl, rfl⟩
  | park => simp only [State.takeCommand, State.park]; split <;> exact .of_same rfl rfl
  | wake => simp only [State.takeCommand, State.wake]; split <;> exact .of_same rfl rfl
  | branchAbort => exact s.branchAbort_steady r
  | bridgeReset => exact s.bridgeReset_steady r
  | revert | reclaimClear | timeSet => exact .of_same rfl rfl

theorem State.commandWrite_steady (s : State) (r : Requester) (code argument : BitVec 8) :
    s.Steady (s.commandWrite r code argument) := by
  unfold State.commandWrite
  split
  · exact s.takeCommand_steady r argument _
  · exact .of_same rfl rfl

/-! ### Aperture writes -/

/-- 07 R122: the configuration takes a value in OFF alone, with the result DONE. -/
theorem State.configWrite_governed (s : State) (r : Requester) (field : ConfigField) (v : Word) :
    s.Governed (s.configWrite r field v) := by
  unfold State.configWrite
  split
  · next off =>
    split
    · exact ⟨fun lawful => (lawful.withField off field v).of_notice rfl, .inr (.inl ⟨off, rfl, rfl, rfl⟩), .inl rfl⟩
    · exact .of_same rfl rfl
  · exact .of_same rfl rfl

/-- 09 R154: a setting takes a value with the result DONE. -/
theorem State.settingWrite_governed (s : State) (r : Requester) (inRange : Bool) (taken : State → State)
    (notice : (taken s).notice = s.notice) (result : (taken s).mgmt.result = s.mgmt.result) :
    s.Governed (State.settingWrite r inRange taken s) := by
  unfold State.settingWrite
  split
  · refine ⟨fun lawful => lawful.of_notice notice, .inl ?_, .inr (.inl ⟨rfl, rfl, ?_⟩)⟩
    · simp only [State.configuration, State.resultDone_eq, State.setResult_notice, notice]
    · simp only [State.resultDone_eq, State.setResult_result, result]
  · exact .of_same rfl rfl

theorem State.writeSetting_governed (s : State) (r : Requester) (which : Setting) (v : Word) :
    s.Governed (s.writeSetting r which v) := by
  cases which with
  | requesterQuota | holdLimit | writeMask | warmUp => apply State.settingWrite_governed <;> rfl
  | autoPark => apply State.settingWrite_governed <;> split <;> rfl

theorem State.writeWord_governed (s : State) (r : Requester) (word : ApertureWord) (v : Word) :
    s.Governed (s.writeWord r word v) := by
  cases word with
  | setting which => exact s.writeSetting_governed r which v
  | command => exact (s.commandWrite_steady r _ _).governed
  | config field => exact s.configWrite_governed r field v
  | consumer => exact (s.consumerWrite_steady r v).governed
  | _ => exact .of_same rfl rfl

theorem State.apertureGate_governed (s : State) (r : Requester) (f : State → State) (effect : s.Governed (f s)) :
    s.Governed (s.apertureGate r f) :=
  gate_cases (P := s.Governed) (fun _ a change => change.answer a) (State.Steady.refl s).governed effect

theorem State.apertureRequest_governed (s : State) (q : TrunkRequest) : s.Governed (s.apertureRequest q) := by
  unfold State.apertureRequest
  split
  · unfold State.apertureAccess
    split
    · exact .of_same rfl rfl
    · exact s.apertureGate_governed _ _ (s.writeWord_governed ..)
    · exact .of_same rfl rfl
  · exact .of_same rfl rfl

/-! ### Requests -/

/-- 02 R27, R28. -/
theorem State.answerEntry_steady (s : State) (i : Slot) (e : Entry) (q : TrunkRequest) : s.Steady (s.answerEntry i e q) := by
  unfold State.answerEntry
  split
  · exact .of_frame rfl rfl
  · split <;> exact .of_frame rfl rfl

/-- 06 R110. -/
theorem State.lateDeliver_steady (s : State) (k : Nat) : s.Steady (s.lateDeliver k) := by
  unfold State.lateDeliver
  split
  · have erased : s.Steady { s with reclaim.records := s.reclaim.records.eraseIdx k } := .of_frame rfl rfl
    exact (erased.trans (State.generate_steady _ _)).trans (.of_frame rfl rfl)
  · exact .refl s

/-- 08 R144: an admission tells nothing. -/
theorem State.admission_steady (s : State) (q : TrunkRequest) (w : WindowNo) : s.Steady (s.admission q w) := by
  have delayed (route : Route) : s.Steady (s.admitDelayed q route) := by
    unfold State.admitDelayed
    split
    · exact .of_frame (by simp) (by simp)
    · exact .of_frame rfl rfl
  have posted (words : List LaneWord) (route : Route) : s.Steady (s.admitPosted q words route) := by
    unfold State.admitPosted
    split
    · exact .of_frame (by simp) (by simp)
    · exact .of_frame rfl rfl
  simp only [State.admission]
  split
  · exact .of_frame rfl rfl
  · split
    · exact delayed _
    · split
      · exact posted _ _
      · exact delayed _

/-- 08 R142 to R144. -/
theorem State.windowRequest_steady (s : State) (q : TrunkRequest) : s.Steady (s.windowRequest q) := by
  unfold State.windowRequest
  split
  · exact .of_frame rfl rfl
  · split
    · exact .of_frame rfl rfl
    · split
      · exact (s.generate_steady _).trans (.of_frame rfl rfl)
      · split
        · exact .of_frame rfl rfl
        · exact s.admission_steady q _

/-- 08 R138 steps 3 to 9. -/
theorem State.matchOrPass_steady (s : State) (q : TrunkRequest) : s.Steady (s.matchOrPass q) := by
  unfold State.matchOrPass State.reclaimOrWindow
  split
  · exact s.answerEntry_steady ..
  · split
    · exact s.lateDeliver_steady _
    · exact s.windowRequest_steady q

/-- 08 R138: a request through the check sequence. -/
theorem State.present_governed (s : State) (q : TrunkRequest) : s.Governed (s.present q) := by
  unfold State.present
  split
  · exact .of_same rfl rfl
  · split
    · exact .of_same rfl rfl
    · split
      · exact s.apertureRequest_governed q
      · exact (s.matchOrPass_steady q).governed

/-! ### Every command -/

/-- A row that has its effect on a condition and else changes nothing. -/
theorem State.governed_ite {s u : State} {c : Prop} [Decidable c] (effect : c → s.Steady u) :
    ∃ t : State, (if c then .next u else .next s : Host.Outcome State Fault Refusal) = .next t ∧ s.Governed t := by
  split
  · next holds => exact ⟨u, rfl, (effect holds).governed⟩
  · exact ⟨s, rfl, (State.Steady.refl s).governed⟩

/-- A row that an aperture write carries. -/
theorem State.governed_gate (s : State) (r : Requester) (f : State → State) (effect : s.Governed (f s)) :
    ∃ t : State, (.next (s.apertureGate r f) : Host.Outcome State Fault Refusal) = .next t ∧ s.Governed t :=
  ⟨_, rfl, s.apertureGate_governed r f effect⟩

/-- A command row that an aperture write carries. -/
theorem State.governed_command (s : State) (r : Requester) (argument : BitVec 8) (c : Command) :
    ∃ t : State, (.next (s.apertureGate r fun u => u.takeCommand r argument c) : Host.Outcome State Fault Refusal) = .next t
      ∧ s.Governed t :=
  s.governed_gate r _ (s.takeCommand_steady r argument c).governed

/-- A command that writes neither the configuration nor a setting. -/
theorem exists_governed {s : State} {o : Host.Outcome State Fault Refusal} (run : ∃ t : State, o = .next t ∧ s.Steady t) :
    ∃ t : State, o = .next t ∧ s.Governed t := by
  obtain ⟨t, took, steady⟩ := run
  exact ⟨t, took, steady.governed⟩

/-- 08 R140. -/
theorem execApertureAccessRefused_steady (q : TrunkRequest) (s : State) :
    ∃ t : State, execApertureAccessRefused q s = .next t ∧ s.Steady t := by
  unfold execApertureAccessRefused
  split
  · exact ⟨_, rfl, .of_frame rfl rfl⟩
  · split <;> exact ⟨_, rfl, .of_frame rfl rfl⟩

/-- 09 R160: a hard reset puts everything back. -/
theorem execHardReset_governed (cause : HardResetCause) (s : State) :
    ∃ t : State, execHardReset cause s = .next t ∧ s.Governed t := by
  refine ⟨_, rfl, fun _ => ?_, .inr (.inr rfl), .inr (.inr rfl)⟩
  obtain ⟨-, -, -, -, -, -, -, -, -, ring, engine⟩ := resetMeetsEveryLaw
  exact State.EngineLawful.of_notice ⟨engine, ring⟩ rfl

/-- Whatever the command, the engine's laws hold on, and the configuration and the settings change with their cause. -/
theorem exec_governed (c : Instr) (s : State) : ∃ t : State, exec c s = .next t ∧ s.Governed t := by
  cases c with
  | trunkRequest q => exact ⟨_, rfl, s.present_governed q⟩
  | apertureWrite r offset v => exact ⟨_, rfl, s.present_governed _⟩
  | apertureAccessRefused q => exact exists_governed (execApertureAccessRefused_steady q s)
  | takeHead => exact exists_governed (execTakeHead_steady s)
  | branchAck data => exact exists_governed (execBranchAck_steady data s)
  | branchErr => exact ⟨_, rfl, (s.endItem_steady _).governed⟩
  | handshakeLimitExpiry => exact State.governed_ite fun _ => s.expireHandshake_steady
  | holdExpiry i => exact State.governed_ite fun _ => s.expireHold_steady i
  | warmUpExpiry => exact State.governed_ite fun _ => .of_frame s.expireWarmUp_notice s.expireWarmUp_mgmt
  | idleTimerExpiry => exact State.governed_ite fun _ => .of_frame rfl rfl
  | recordWrite => exact exists_governed (execRecordWrite_steady s)
  | recordWriteDone => exact State.governed_ite s.recordDone_steady
  | recordWriteWait => exact State.governed_ite fun flight => s.writeWait_steady flight rfl nofun fun _ => rfl
  | recordWriteFault code => exact State.governed_ite fun flight => s.stall_steady flight rfl nofun fun _ => rfl
  | signalWriteDone => exact State.governed_ite fun _ => s.flightOver_steady
  | signalWriteWait => exact State.governed_ite fun flight => s.writeWait_steady flight rfl nofun (by simp)
  | signalWriteFault code => exact State.governed_ite fun flight => s.stall_steady flight rfl nofun (by simp)
  | abandonedWriteAnswer answer => exact exists_governed (execAbandonedWriteAnswer_steady answer s)
  | commit r => exact s.governed_command r 0 .commit
  | revert r => exact s.governed_command r 0 .revert
  | unfence r argument => exact s.governed_command r argument .unfence
  | flush r => exact s.governed_command r 0 .flush
  | reclaimPop r => exact s.governed_command r 0 .reclaimPop
  | reclaimClear r => exact s.governed_command r 0 .reclaimClear
  | noticeStart r => exact s.governed_command r 0 .noticeStart
  | noticeStop r => exact s.governed_command r 0 .noticeStop
  | park r => exact s.governed_command r 0 .park
  | wake r => exact s.governed_command r 0 .wake
  | branchAbort r => exact s.governed_command r 0 .branchAbort
  | timeSet r => exact s.governed_command r 0 .timeSet
  | bridgeReset r => exact s.governed_command r 0 .bridgeReset
  | unknownCommand r code => exact s.governed_gate r _ (s.commandWrite_steady r code 0).governed
  | requesterQuotaWrite r v => exact s.governed_gate r _ (s.writeSetting_governed r .requesterQuota v)
  | holdLimitWrite r v => exact s.governed_gate r _ (s.writeSetting_governed r .holdLimit v)
  | managementWriteMaskWrite r v => exact s.governed_gate r _ (s.writeSetting_governed r .writeMask v)
  | warmUpWrite r v => exact s.governed_gate r _ (s.writeSetting_governed r .warmUp v)
  | autoParkIntervalWrite r v => exact s.governed_gate r _ (s.writeSetting_governed r .autoPark v)
  | noticeConfigurationWrite r field v => exact s.governed_gate r _ (s.configWrite_governed r field v)
  | consumerCounterWrite r v => exact s.governed_gate r _ (s.consumerWrite_steady r v).governed
  | hardReset cause => exact execHardReset_governed cause s
  | hardResetRelease strap => exact State.governed_ite fun _ => .of_same rfl rfl

/-- Every step is governed: neither the laws nor the causes speak of the queue. -/
theorem step_governed {s t : State} (h : step s = .next t) : s.Governed t := by
  rcases step_cases h with ⟨c, queue, run⟩ | rfl
  · obtain ⟨u, took, change⟩ := exec_governed c { s with pending := queue }
    obtain rfl : u = t := by rw [took] at run; injection run
    exact ⟨change.lawful, change.configuration, change.settings⟩
  · exact (State.Steady.of_same (s.elapse_notice 1) (by simp [State.settings])).governed

/-! ### The statements -/

/-- Settles O13: every event keeps the engine's laws. -/
theorem stepKeepsNoticeEngineSound : Obligations.StepKeepsNoticeEngineSound :=
  fun _ _ sound safe step => (step_governed step).lawful ⟨sound, safe⟩

/-- Settles O17: a change of the configuration or of a setting comes with the result of its write. -/
theorem configurationChangesByRule : Obligations.ConfigurationChangesByRule := by
  intro s t step out
  have pin : t.port.held ≠ true := by simp [out]
  obtain ⟨-, configuration, settings⟩ := step_governed step
  refine ⟨fun on => ?outside, fun changed => ?configured, fun changed => ?set⟩
  case outside =>
    have same := configuration.resolve_right fun cause => cause.elim (fun write => on write.1) pin
    simpa only [State.configuration, NoticeConfiguration.mk.injEq] using same
  case configured =>
    rcases configuration with same | ⟨-, done⟩ | held
    · simp only [State.configuration, NoticeConfiguration.mk.injEq] at same
      simp [same] at changed
    · exact done
    · exact absurd held pin
  case set =>
    rcases settings with same | done | held
    · simp only [State.settings, Settings.mk.injEq] at same
      simp [same] at changed
    · exact done
    · exact absurd held pin

end Sys2Proof.Machine

/-! Record writes and signal writes, and their answers. -/

namespace Sys2Proof.Machine

/-! ### The image of a notice -/

/-- 11 R168: the code of a notice kind fits its field. -/
theorem NoticeKind.code_lt (k : NoticeKind) : NoticeKind.code k < 2 ^ 8 := by cases k <;> decide

/-- 11 11.7: a window or requester number, or none, fits its field. -/
theorem orNone_lt (n : Option (Fin 16)) : orNone n < 2 ^ 8 := by
  cases n with
  | none => decide
  | some x => exact x.isLt.trans (by decide)

/-- 11 R168: the four words of a notice record, as numbers. -/
theorem Notice.image_toNat (n : Notice) :
    n.image.map (·.toNat)
      = [ NoticeKind.code n.kind + 2 ^ 8 * orNone n.window + 2 ^ 16 * orNone n.requester + 2 ^ 24 * n.epoch.toNat,
          n.sequence.toNat + 2 ^ 16 * n.aux.toNat, n.timeTag.toNat, n.detail.toNat ] := by
  have kind := n.kind.code_lt
  have window := orNone_lt n.window
  have requester := orNone_lt n.requester
  have epoch := n.epoch.isLt
  have sequence := n.sequence.isLt
  have aux := n.aux.isLt
  have first := packed_cons (0, 8, NoticeKind.code n.kind)
    [(8, 8, orNone n.window), (16, 8, orNone n.requester), (24, 8, n.epoch.toNat)] rfl
  have second := packed_cons (0, 16, n.sequence.toNat) [(16, 16, n.aux.toNat)] rfl
  simp only [List.foldl_cons, List.foldl_nil] at first second
  simp only [Notice.image, ← first, ← second, List.map_cons, List.map_nil, packed, List.sum_cons, List.sum_nil,
    Nat.mod_eq_of_lt kind, Nat.mod_eq_of_lt window, Nat.mod_eq_of_lt requester, Nat.mod_eq_of_lt epoch,
    Nat.mod_eq_of_lt sequence, Nat.mod_eq_of_lt aux, BitVec.toNat_ofNat, List.cons.injEq, and_true]
  omega

/-! ### RECORD_WRITE -/

/-- 07 R124: the four conditions of a record write. -/
theorem NoticeEngine.recordDue_iff (n : NoticeEngine) :
    n.recordDue = true ↔ n.state = .running ∧ n.flight = none ∧ n.backlog ≠ [] ∧ n.occupancy < n.ringSize := by
  simp [NoticeEngine.recordDue, and_assoc]

/-- 07 R124: the record write of the backlog's head. -/
theorem execRecordWrite_due {s : State} {head : Notice} {rest : List Notice} (held : s.notice.backlog = head :: rest)
    (due : s.notice.recordDue = true) :
    execRecordWrite s =
      .next
        { s with
          notice.flight := some { kind := .record, presented := s.notice.recordWrite head }
          notice.waitCount := 0 } := by
  rw [execRecordWrite, held]
  exact if_pos due

/-- 07 R124: no record write is issued where one of the conditions fails. -/
theorem execRecordWrite_idle {s : State} (idle : s.notice.recordDue ≠ true) : execRecordWrite s = .next s := by
  unfold execRecordWrite
  split
  · exact if_neg idle
  · rfl

/-- 07 R124: the address of the record's slot. -/
theorem NoticeEngine.recordWrite_address (n : NoticeEngine) (head : Notice) :
    (n.recordWrite head).address.toNat
      = (n.ringBase.toNat + 16 * (n.producer.toNat % 2 ^ n.ringOrder.toNat)) % 2 ^ 32 := by
  simp [NoticeEngine.recordWrite, NoticeEngine.ringSize]

/-- Settles O45: by the four conditions, with the notice's image packed field by field. -/
theorem recordWriteCarriesTheHead : Obligations.RecordWriteCarriesTheHead := by
  refine ⟨rfl, rfl, rfl, fun s => ⟨fun n rest running free held room => ?issued, fun fails => ?idle⟩⟩
  case issued =>
    have due : s.notice.recordDue = true := s.notice.recordDue_iff.mpr ⟨running, free, by simp [held], room⟩
    refine ⟨s.notice.recordWrite n, execRecordWrite_due held due, rfl, s.notice.recordWrite_address n, ?_⟩
    refine n.image_toNat.trans ?_
    cases n.window <;> cases n.requester <;> rfl
  case idle =>
    refine execRecordWrite_idle fun due => ?_
    obtain ⟨running, free, held, room⟩ := s.notice.recordDue_iff.mp due
    rcases fails with off | busy | empty | full
    · exact off running
    · exact busy free
    · exact held empty
    · exact absurd room (Nat.not_lt.mpr full)

/-! ### DONE of a record write -/

/-- 07 R125 step 4, R129: RING_HALF at exactly half the ring, with half-armed set. -/
theorem State.ringHalf_eq (t : State) :
    t.ringHalf =
      if 2 * (t.notice.producer - t.notice.consumer).toNat = 2 ^ t.notice.ringOrder.toNat ∧ t.notice.halfArmed = true then
        State.notified { t with notice.halfArmed := false } .ringHalf none none t.window.epoch (t.notice.producer.setWidth 32)
          t.notice.consumer
      else t := by
  simp only [State.ringHalf, State.generate_eq_notified]
  rfl

/-- 07 R125 step 5, R128: the signal write is issued when enabled and armed. -/
theorem State.issueSignal_eq (t : State) :
    t.issueSignal =
      if t.notice.signalEnable = true ∧ t.notice.signalArmed = true then
        { t with
          notice.signalArmed := false
          notice.waitCount := 0
          notice.flight :=
            some
              { kind := .signal,
                presented :=
                  { requester := t.notice.ownRequester, address := t.notice.signalAddress, words := [t.notice.signalValue] } } }
      else t := by
  simp only [State.issueSignal, Bool.and_eq_true]
  rfl

/-- 07 R125 step 4: RING_HALF leaves what the signal write is made of. -/
theorem State.ringHalf_signal (t : State) :
    t.ringHalf.notice.signalEnable = t.notice.signalEnable ∧ t.ringHalf.notice.signalArmed = t.notice.signalArmed
      ∧ t.ringHalf.notice.ownRequester = t.notice.ownRequester ∧ t.ringHalf.notice.signalAddress = t.notice.signalAddress
      ∧ t.ringHalf.notice.signalValue = t.notice.signalValue := by
  unfold State.ringHalf
  split <;> exact ⟨rfl, rfl, rfl, rfl, rfl⟩

/-- 07 R125 steps 4 and 5: the signal write is that of the state the record landed in. -/
theorem State.ringHalf_issueSignal_eq (t : State) :
    t.ringHalf.issueSignal =
      if t.notice.signalEnable = true ∧ t.notice.signalArmed = true then
        { t.ringHalf with
          notice.signalArmed := false
          notice.waitCount := 0
          notice.flight :=
            some
              { kind := .signal,
                presented :=
                  { requester := t.notice.ownRequester, address := t.notice.signalAddress, words := [t.notice.signalValue] } } }
      else t.ringHalf := by
  obtain ⟨enable, armed, own, address, value⟩ := t.ringHalf_signal
  rw [State.issueSignal_eq, enable, armed, own, address, value]

/-- 07 R125: the DONE of a record write. -/
theorem execRecordWriteDone_record {s : State} (flight : s.flightKind = some .record) :
    execRecordWriteDone s = .next s.recordDelivered.ringHalf.issueSignal := if_pos flight

/-- 07 R131: the answer of an abandoned write is DONE, of a record write. -/
theorem execAbandonedWriteAnswer_done {s : State} {restarted : Bool} (flight : s.flightKind = some (.abandoned true restarted)) :
    execAbandonedWriteAnswer .done s = .next (s.abandonedDone restarted) := by
  simp [execAbandonedWriteAnswer, flight]

/-- 07 R131: any other answer of an abandoned write ends it without effect. -/
theorem execAbandonedWriteAnswer_over {s : State} {wasRecord restarted : Bool} {answer : WriteAnswer}
    (flight : s.flightKind = some (.abandoned wasRecord restarted)) (other : ¬(wasRecord = true ∧ answer = .done)) :
    execAbandonedWriteAnswer answer s = .next { s with notice.flight := none } := by
  simp only [execAbandonedWriteAnswer, flight, if_neg other]

/-- 07 R131: in RUNNING the record of a write abandoned with no start since lands, with steps 4 and 5. -/
theorem State.abandonedDone_running (s : State) (running : s.notice.state = .running) :
    s.abandonedDone false = s.recordLanded.ringHalf.issueSignal := by
  simp [State.abandonedDone, running]

/-- Settles O46: steps 4 and 5 read the counters of the state the record landed in. -/
theorem recordWriteDoneAdvancesTheRing : Obligations.RecordWriteDoneAdvancesTheRing := by
  intro s f found finish landed
  refine ⟨fun record => ?done, fun abandoned running => ?abandonedDone⟩
  case done =>
    rw [exec, execRecordWriteDone_record (State.flightKind_of found record), State.ringHalf_issueSignal_eq, State.ringHalf_eq]
    rfl
  case abandonedDone =>
    rw [exec, execAbandonedWriteAnswer_done (State.flightKind_of found abandoned), s.abandonedDone_running running,
      State.ringHalf_issueSignal_eq, State.ringHalf_eq]
    rfl

/-! ### WAIT and FAULT -/

/-- Settles O47: the 64th WAIT and every FAULT stall the engine. -/
theorem waitsAndFaultsStallTheEngine : Obligations.WaitsAndFaultsStallTheEngine := by
  intro s f found stalled waited
  have again (reason : StallReason) (below : s.notice.waitCount < 63) : s.writeWait reason = waited :=
    s.writeWait_again reason (by omega)
  have last (reason : StallReason) (limit : s.notice.waitCount = 63) : s.writeWait reason = stalled waited reason :=
    s.writeWait_limit reason (by omega)
  refine ⟨fun record => ⟨fun below => ?_, fun limit => ?_, fun code => if_pos (State.flightKind_of found record)⟩,
    fun signal => ⟨fun below => ?_, fun limit => ?_, fun code => if_pos (State.flightKind_of found signal),
      if_pos (State.flightKind_of found signal)⟩⟩
  · rw [← again .recordWaitLimit below]
    exact if_pos (State.flightKind_of found record)
  · rw [← last .recordWaitLimit limit]
    exact if_pos (State.flightKind_of found record)
  · rw [← again .signalWaitLimit below]
    exact if_pos (State.flightKind_of found signal)
  · rw [← last .signalWaitLimit limit]
    exact if_pos (State.flightKind_of found signal)

end Sys2Proof.Machine

/-! NOTICE_START, NOTICE_STOP, the configuration words and the consumer counter. -/

namespace Sys2Proof.Machine

/-! ### NOTICE_START -/

/-- 07 R122: the FIELD check. -/
theorem NoticeEngine.ringBad_iff (n : NoticeEngine) :
    n.ringBad = true ↔
      n.ringOrder.toNat < 3 ∨ 10 < n.ringOrder.toNat ∨ 0xFFFFFFFF < n.ringBase.toNat + 16 * 2 ^ n.ringOrder.toNat - 1 := by
  simp only [NoticeEngine.ringBad, Bool.or_eq_true, decide_eq_true_eq, or_assoc]
  rfl

/-- 07 R122: the RING_CLASH check. -/
theorem State.ringClashes_iff (s : State) :
    s.ringClashes = true ↔
      ∃ a : Nat, s.notice.RingByte a ∧ (s.ApertureByte a ∨ ∃ w : WindowNo, (s.window.active.get w).HoldsByte a) := by
  have aperture : s.notice.meetsRing s.apertureBase (s.apertureBase + Config.apertureSize - 1) = true
      ↔ ∃ a, s.ApertureByte a ∧ s.notice.RingByte a := by
    rw [s.notice.meetsRing_iff (by simp only [Config.apertureSize]; omega)]
    refine exists_congr fun a => and_congr_left fun _ => ?_
    simp only [State.ApertureByte, State.apertureBase, Config.apertureStride, Config.apertureOffset, Config.apertureSize]
    omega
  have window (w : WindowNo) : ((s.window.active.get w).valid
      && s.notice.meetsRing (s.window.active.get w).first (s.window.active.get w).last) = true
      ↔ ∃ a, (s.window.active.get w).HoldsByte a ∧ s.notice.RingByte a := by
    rw [Bool.and_eq_true, s.notice.meetsRing_iff (WindowRecord.first_le_last _), ← exists_and_left]
    exact exists_congr fun a => (and_assoc ..).symm
  simp only [State.ringClashes, Bool.or_eq_true, aperture, List.any_eq_true, window, List.mem_finRange, true_and]
  constructor
  · rintro (⟨a, inAperture, inRing⟩ | ⟨w, a, inWindow, inRing⟩)
    · exact ⟨a, inRing, .inl inAperture⟩
    · exact ⟨a, inRing, .inr ⟨w, inWindow⟩⟩
  · rintro ⟨a, inRing, inAperture | ⟨w, inWindow⟩⟩
    · exact .inl ⟨a, inAperture, inRing⟩
    · exact .inr ⟨w, a, inWindow, inRing⟩

/-- 07 R131: the write in flight after a start. -/
theorem flight_map_restart (flight : Option Flight) : flight.map Flight.restart = flightRestarted flight := by
  rcases flight with _ | ⟨kind, w⟩
  · rfl
  · cases kind <;> rfl

/-- 07 R131, R133: the write in flight after a stop. -/
theorem flight_map_abandon (flight : Option Flight) : flight.map Flight.abandon = flightAbandoned flight := by
  rcases flight with _ | ⟨kind, w⟩
  · rfl
  · cases kind <;> rfl

/-- 07 R127: a stall on a signal write. -/
theorem StallReason.onSignal_iff (reason : StallReason) :
    reason.onSignal = true ↔ reason = .signalFault ∨ reason = .signalWaitLimit := by
  cases reason <;> simp [StallReason.onSignal]

theorem exec_noticeStart (s : State) (r : Requester) (accepted : s.accepts r) :
    exec (.noticeStart r) s = .next ((s.noticeStart r).answer (.done [])) := by
  rw [exec, execNoticeStart, s.apertureGate_accepted r _ accepted]

/-- 07 R122: NOTICE_START in OFF. -/
theorem State.noticeStart_off (s : State) (r : Requester) (off : s.notice.state = .off) :
    s.noticeStart r =
      if s.notice.ringBad then s.resultRefused (.command .noticeStart) r .field 0
      else if s.ringClashes then s.resultRefused (.command .noticeStart) r .ringClash 0
      else s.startEngine.resultDone (.command .noticeStart) r 0 := by
  simp only [State.noticeStart, off]

/-- Settles O48: the engine's state, then the two checks of a start from OFF. -/
theorem noticeStartByState : Obligations.NoticeStartByState := by
  intro s r accepted fieldFails clashes answer
  have run := exec_noticeStart s r accepted
  have field : s.notice.ringBad = true ↔ fieldFails := s.notice.ringBad_iff
  have clash : s.ringClashes = true ↔ clashes := s.ringClashes_iff
  refine ⟨fun off fails => ?field, fun off fits meets => ?clash, fun off fits clear => ?start, fun stalled => ?resume,
    fun running => ?running⟩
  case field =>
    rw [s.noticeStart_off r off, if_pos (field.mpr fails)] at run
    exact run
  case clash =>
    rw [s.noticeStart_off r off, if_neg (mt field.mp fits), if_pos (clash.mpr meets)] at run
    exact run
  case start =>
    rw [s.noticeStart_off r off, if_neg (mt field.mp fits), if_neg (mt clash.mp clear), State.resultDone_answer,
      State.startEngine, flight_map_restart] at run
    exact run
  case resume =>
    have armed : (s.notice.signalArmed || s.notice.stallReason.onSignal)
        = if s.notice.stallReason = .signalFault ∨ s.notice.stallReason = .signalWaitLimit then true
          else s.notice.signalArmed := by
      simp only [← StallReason.onSignal_iff]
      cases s.notice.stallReason.onSignal <;> simp
    have resumed : s.noticeStart r = s.resumeEngine.resultDone (.command .noticeStart) r 0 := by
      simp only [State.noticeStart, stalled]
    rw [resumed, State.resultDone_answer, State.resumeEngine, armed] at run
    exact run
  case running =>
    have same : s.noticeStart r = s.resultDone (.command .noticeStart) r 0 := by simp only [State.noticeStart, running]
    rw [same] at run
    exact run

/-! ### NOTICE_STOP and the answers of an abandoned write -/

/-- 07 R131: in OFF the record of an abandoned write lands, and nothing follows. -/
theorem State.abandonedDone_off (s : State) (restarted : Bool) (off : s.notice.state = .off) :
    s.abandonedDone restarted = s.recordLanded := by
  simp only [State.abandonedDone, off]

/-- 07 R131: after a start the DONE is without effect. -/
theorem State.abandonedDone_restarted (s : State) (running : s.notice.state = .running) :
    s.abandonedDone true = { s with notice.flight := none } := by
  simp [State.abandonedDone, running]

/-- Settles O49: the stop in any state, and each answer by what the abandoned write was. -/
theorem noticeStopAbandonsTheWrite : Obligations.NoticeStopAbandonsTheWrite := by
  refine ⟨fun s r accepted => ?stop, fun s f wasRecord restarted found kind => ?answers⟩
  case stop =>
    rw [exec, execNoticeStop, s.apertureGate_accepted r _ accepted, State.noticeStop, State.resultDone_answer,
      flight_map_abandon]
  case answers =>
    have flight := State.flightKind_of found kind
    have ended {answer : WriteAnswer} (other : ¬(wasRecord = true ∧ answer = .done)) :=
      execAbandonedWriteAnswer_over flight other
    refine ⟨fun record off => ?_, fun record restart running => ?_, fun signal => ended (by simp [signal]), ended (by simp),
      fun code => ended (by simp)⟩
    · subst record
      rw [exec, execAbandonedWriteAnswer_done flight, s.abandonedDone_off restarted off]
      rfl
    · subst record restart
      rw [exec, execAbandonedWriteAnswer_done flight, s.abandonedDone_restarted running]

/-! ### The configuration -/

theorem exec_configurationWrite (s : State) (r : Requester) (field : ConfigField) (v : Word) (accepted : s.accepts r) :
    exec (.noticeConfigurationWrite r field v) s = .next ((s.configWrite r field v).answer (.done [])) := by
  rw [exec, execNoticeConfigurationWrite, s.apertureGate_accepted r _ accepted]

/-- 07 R122: outside OFF the configuration is closed. -/
theorem State.configWrite_on (s : State) (r : Requester) (field : ConfigField) (v : Word) (on : s.notice.state ≠ .off) :
    s.configWrite r field v = s.resultRefused .noticeWrite r .state 0 := if_neg on

/-- 07 R122: in OFF a field takes a value in its range. -/
theorem State.configWrite_taken (s : State) (r : Requester) (field : ConfigField) (v : Word) (off : s.notice.state = .off)
    (inRange : ConfigField.inRange field v = true) :
    s.configWrite r field v = State.resultDone { s with notice := s.notice.withField field v } .noticeWrite r 0 := by
  rw [State.configWrite, if_pos off, if_pos inRange]

/-- 07 R122: in OFF a value out of range is refused. -/
theorem State.configWrite_refused (s : State) (r : Requester) (field : ConfigField) (v : Word) (off : s.notice.state = .off)
    (outside : ConfigField.inRange field v ≠ true) : s.configWrite r field v = s.resultRefused .noticeWrite r .field 0 := by
  rw [State.configWrite, if_pos off, if_neg outside]

/-- 11 R167: signal enable takes bit 0. -/
theorem getLsbD_zero_eq_odd (v : Word) : v.getLsbD 0 = (v.toNat % 2 == 1) := by
  rw [BitVec.getLsbD, Nat.testBit_zero]
  rfl

/-- Settles O50: the engine's state, then the range of the field. -/
theorem configurationWriteByState : Obligations.ConfigurationWriteByState := by
  intro s r v accepted put refuse
  have run (field : ConfigField) := exec_configurationWrite s r field v accepted
  have closed (on : s.notice.state ≠ .off) (field : ConfigField) : refuse field .state := by
    have := run field
    rwa [s.configWrite_on r field v on] at this
  refine ⟨closed, fun off => ?_⟩
  have taken (field : ConfigField) (inRange : ConfigField.inRange field v = true) : put field (s.notice.withField field v) := by
    have := run field
    rwa [s.configWrite_taken r field v off inRange] at this
  have refused (field : ConfigField) (outside : ConfigField.inRange field v ≠ true) : refuse field .field := by
    have := run field
    rwa [s.configWrite_refused r field v off outside] at this
  refine ⟨?ringBase, ?ringOrder, ?signalAddress, taken .signalValue rfl, ?signalEnable, fun id named => ?own,
    fun above => refused .ownRequester (by simpa [ConfigField.inRange] using above)⟩
  case ringBase =>
    split
    · next aligned => exact taken .ringBase (by simpa [ConfigField.inRange] using aligned)
    · next misaligned => exact refused .ringBase (by simpa [ConfigField.inRange] using misaligned)
  case ringOrder =>
    split
    · next within => exact taken .ringOrder (by simpa [ConfigField.inRange] using within)
    · next outside => exact refused .ringOrder (by simpa [ConfigField.inRange] using outside)
  case signalAddress =>
    split
    · next aligned => exact taken .signalAddress (by simpa [ConfigField.inRange] using aligned)
    · next misaligned => exact refused .signalAddress (by simpa [ConfigField.inRange] using misaligned)
  case signalEnable =>
    rw [← getLsbD_zero_eq_odd v]
    exact taken .signalEnable rfl
  case own =>
    have own : lowFin 16 v.toNat = id := by
      rw [← named]
      exact Fin.ext (Nat.mod_eq_of_lt id.isLt)
    rw [← own]
    exact taken .ownRequester (by simp [ConfigField.inRange]; omega)

/-! ### The consumer counter -/

/-- 07 R130: the difference of two counters, modulo 65536. -/
theorem counter_sub_toNat (a b : BitVec 16) : (a - b).toNat = (a.toNat + 65536 - b.toNat) % 65536 := by
  have := b.isLt
  rw [BitVec.toNat_sub]
  congr 1
  omega

/-- Settles O51: the write moves the counter toward the producer, or is refused. -/
theorem consumerWriteMovesTowardTheProducer : Obligations.ConsumerWriteMovesTowardTheProducer := by
  intro s r v accepted c new old
  have run : exec (.consumerCounterWrite r v) s = .next ((s.consumerWrite r v).answer (.done [])) := by
    rw [exec, execConsumerCounterWrite, s.apertureGate_accepted r _ accepted]
  have newly : s.notice.newOccupancy c = new := counter_sub_toNat _ _
  have before : s.notice.occupancy = old := counter_sub_toNat _ _
  have write : s.consumerWrite r v =
      if new ≤ old then
        State.resultDone
          { s with
            notice.consumer := c
            notice.signalArmed := true
            notice.halfArmed := s.notice.halfArmed || decide (2 * new < s.notice.ringSize) } .noticeWrite r 0
      else s.resultRefused .noticeWrite r .badIndex 0 := by
    rw [← newly, ← before]
    rfl
  have armed : (s.notice.halfArmed || decide (2 * new < s.notice.ringSize))
      = if 2 * new < 2 ^ s.notice.ringOrder.toNat then true else s.notice.halfArmed := by
    by_cases below : 2 * new < 2 ^ s.notice.ringOrder.toNat <;> simp [NoticeEngine.ringSize, below]
  rw [write] at run
  refine ⟨fun toward => ?_, fun away => ?_⟩
  · rw [if_pos toward, armed] at run
    exact run
  · rw [if_neg (Nat.not_le.mpr away)] at run
    exact run

end Sys2Proof.Machine

/-! The queue of commands is the step's alone: every command, in every state, answers a next state with the queue it was given. -/

namespace Sys2Proof.Machine

/-! ### Operations that leave the queue as it is -/

/-- An aperture write leaves the queue when its effect does. -/
theorem State.apertureGate_pending (s : State) (r : Requester) (f : State → State) (effect : (f s).pending = s.pending) :
    (s.apertureGate r f).pending = s.pending :=
  gate_cases (P := fun t => t.pending = s.pending) (fun _ _ same => same) rfl effect

@[simp] theorem State.settle_pending (s t : State) : (State.settle s t).pending = t.pending := by
  unfold State.settle; split <;> simp

/-- 04 R79 step 2. -/
@[simp] theorem State.ownerTakes_pending (s : State) (r : Ref) (result : Result) :
    (s.ownerTakes r result).pending = s.pending := by
  cases r with
  | posted => rfl
  | entry i =>
    simp only [State.ownerTakes]
    split
    · split <;> rfl
    · rfl

/-- 04 R79 steps 3 and 4. -/
@[simp] theorem State.engineReport_pending (s : State) (ending : Ending) (it : Item) (p : Progress) (index : BranchIndex) :
    (s.engineReport ending it p index).pending = s.pending := by
  cases ending with
  | ok => simp only [State.engineReport]; split <;> rfl
  | device | skipped => rfl
  | fenced => rw [State.engineReport, State.fenceHandling_eq]; rfl

/-- 02 R42. -/
@[simp] theorem State.disposeCancelled_pending (s : State) (e : Option Entry) (r : Result) :
    (s.disposeCancelled e r).pending = s.pending := by
  cases e with
  | none => rfl
  | some e => simp only [State.disposeCancelled]; split <;> simp

/-- 04 R79. -/
@[simp] theorem State.endItem_pending (s : State) (ending : Ending) : (s.endItem ending).pending = s.pending := by
  rcases s.endItem_cases ending with same | ⟨p, it, active, item⟩
  · rw [same]
  · simp [s.endItem_eq ending active item]

/-- 05 R90. -/
@[simp] theorem State.expireHandshake_pending (s : State) : s.expireHandshake.pending = s.pending := by
  unfold State.expireHandshake
  split
  · rfl
  · split
    · rfl
    · split
      · rfl
      · split <;> exact s.endItem_pending _

/-- 02 R37. -/
@[simp] theorem State.expireHold_pending (s : State) (i : Slot) : (s.expireHold i).pending = s.pending := by
  unfold State.expireHold
  split
  · split <;> simp
  · rfl

/-- 07 R131. -/
@[simp] theorem State.abandonedDone_pending (s : State) (restarted : Bool) : (s.abandonedDone restarted).pending = s.pending := by
  unfold State.abandonedDone
  split
  · rfl
  · split <;> simp
  · split <;> rfl

/-! ### Aperture writes -/

/-- 09 R150, R152. -/
theorem State.takeCommand_pending (s : State) (r : Requester) (argument : BitVec 8) (c : Command) :
    (s.takeCommand r argument c).pending = s.pending := by
  cases c with
  | commit => simp only [State.takeCommand, State.commit]; split <;> rfl
  | unfence =>
    simp only [State.takeCommand, State.unfence]
    split
    · split <;> rfl
    · rfl
  | flush => rw [State.takeCommand, s.flush_eq r, State.resultDone_eq, State.setResult_pending, State.settle_pending]; rfl
  | reclaimPop => simp only [State.takeCommand, State.reclaimPop]; split <;> rfl
  | noticeStart =>
    simp only [State.takeCommand, State.noticeStart]
    split
    · split
      · rfl
      · split <;> rfl
    · rfl
    · rfl
  | park => simp only [State.takeCommand, State.park]; split <;> rfl
  | wake => simp only [State.takeCommand, State.wake]; split <;> rfl
  | branchAbort => simp only [State.takeCommand, State.branchAbort]; split <;> simp
  | bridgeReset => rw [State.takeCommand, s.bridgeReset_eq r]; rfl
  | revert | reclaimClear | noticeStop | timeSet => rfl

/-- 09 R150, 11 R167. -/
theorem State.commandWrite_pending (s : State) (r : Requester) (code argument : BitVec 8) :
    (s.commandWrite r code argument).pending = s.pending := by
  unfold State.commandWrite
  split
  · exact s.takeCommand_pending r argument _
  · rfl

/-- 09 R154. -/
theorem State.writeSetting_pending (s : State) (r : Requester) (which : Setting) (v : Word) :
    (s.writeSetting r which v).pending = s.pending := by
  have taken (inRange : Bool) (f : State → State) (same : (f s).pending = s.pending) :
      (State.settingWrite r inRange f s).pending = s.pending := by
    unfold State.settingWrite
    split
    · exact same
    · rfl
  cases which with
  | requesterQuota | holdLimit | writeMask | warmUp => exact taken _ _ rfl
  | autoPark =>
    refine taken _ _ ?_
    split <;> rfl

/-- 07 R122. -/
theorem State.configWrite_pending (s : State) (r : Requester) (field : ConfigField) (v : Word) :
    (s.configWrite r field v).pending = s.pending := by
  unfold State.configWrite
  split
  · split <;> rfl
  · rfl

/-- 07 R130. -/
theorem State.consumerWrite_pending (s : State) (r : Requester) (v : Word) : (s.consumerWrite r v).pending = s.pending := by
  simp only [State.consumerWrite]; split <;> rfl

/-- 11 R167. -/
theorem State.writeWord_pending (s : State) (r : Requester) (word : ApertureWord) (v : Word) :
    (s.writeWord r word v).pending = s.pending := by
  cases word with
  | setting which => exact s.writeSetting_pending r which v
  | command => exact s.commandWrite_pending r _ _
  | config field => exact s.configWrite_pending r field v
  | consumer => exact s.consumerWrite_pending r v
  | _ => rfl

/-! ### Requests -/

/-- 08 R140. -/
theorem State.apertureRequest_pending (s : State) (q : TrunkRequest) : (s.apertureRequest q).pending = s.pending := by
  unfold State.apertureRequest
  split
  · unfold State.apertureAccess
    split
    · rfl
    · exact s.apertureGate_pending _ _ (s.writeWord_pending ..)
    · rfl
  · rfl

/-- 02 R27, R28. -/
theorem State.answerEntry_pending (s : State) (i : Slot) (e : Entry) (q : TrunkRequest) :
    (s.answerEntry i e q).pending = s.pending := by
  unfold State.answerEntry
  split
  · rfl
  · split <;> rfl

/-- 08 R144. -/
theorem State.admission_pending (s : State) (q : TrunkRequest) (w : WindowNo) : (s.admission q w).pending = s.pending := by
  have delayed (route : Route) : (s.admitDelayed q route).pending = s.pending := by
    unfold State.admitDelayed; split <;> simp
  have posted (words : List LaneWord) (route : Route) : (s.admitPosted q words route).pending = s.pending := by
    unfold State.admitPosted; split <;> simp
  simp only [State.admission]
  split
  · rfl
  · split
    · exact delayed _
    · split
      · exact posted _ _
      · exact delayed _

/-- 08 R142 to R144. -/
theorem State.windowRequest_pending (s : State) (q : TrunkRequest) : (s.windowRequest q).pending = s.pending := by
  unfold State.windowRequest
  split
  · rfl
  · split
    · rfl
    · split
      · rfl
      · split
        · rfl
        · exact s.admission_pending q _

/-- 06 R110. -/
theorem State.lateDeliver_pending (s : State) (k : Nat) : (s.lateDeliver k).pending = s.pending := by
  unfold State.lateDeliver; split <;> rfl

/-- 08 R138. -/
theorem State.present_pending (s : State) (q : TrunkRequest) : (s.present q).pending = s.pending := by
  unfold State.present
  split
  · rfl
  · split
    · rfl
    · split
      · exact s.apertureRequest_pending q
      · unfold State.matchOrPass State.reclaimOrWindow
        split
        · exact s.answerEntry_pending ..
        · split
          · exact s.lateDeliver_pending _
          · exact s.windowRequest_pending q

/-! ### Every command -/

/-- A row that has its effect on a condition and else changes nothing. -/
theorem State.pending_ite {s u : State} {c : Prop} [Decidable c] (effect : u.pending = s.pending) :
    ∃ t : State, (if c then .next u else .next s : Host.Outcome State Fault Refusal) = .next t ∧ t.pending = s.pending := by
  split
  · exact ⟨u, rfl, effect⟩
  · exact ⟨s, rfl, rfl⟩

/-- A row that an aperture write carries. -/
theorem State.pending_gate (s : State) (r : Requester) (f : State → State) (effect : (f s).pending = s.pending) :
    ∃ t : State, (.next (s.apertureGate r f) : Host.Outcome State Fault Refusal) = .next t ∧ t.pending = s.pending :=
  ⟨_, rfl, s.apertureGate_pending r f effect⟩

/-- 04 R69. -/
theorem execTakeHead_pending (s : State) : ∃ t : State, execTakeHead s = .next t ∧ t.pending = s.pending := by
  unfold execTakeHead
  split
  · next r _ _ => exact ⟨_, rfl, by cases r <;> rfl⟩
  · exact ⟨_, rfl, rfl⟩

/-- 04 R76. -/
theorem execBranchAck_pending (data : HalfWord) (s : State) :
    ∃ t : State, execBranchAck data s = .next t ∧ t.pending = s.pending := by
  unfold execBranchAck
  split
  · exact ⟨_, rfl, rfl⟩
  · split
    · exact ⟨_, rfl, rfl⟩
    · dsimp only
      split
      · exact ⟨_, rfl, rfl⟩
      · exact ⟨_, rfl, State.endItem_pending _ _⟩

/-- 07 R124. -/
theorem execRecordWrite_pending (s : State) : ∃ t : State, execRecordWrite s = .next t ∧ t.pending = s.pending := by
  unfold execRecordWrite
  split
  · exact State.pending_ite rfl
  · exact ⟨_, rfl, rfl⟩

/-- 07 R131. -/
theorem execAbandonedWriteAnswer_pending (answer : WriteAnswer) (s : State) :
    ∃ t : State, execAbandonedWriteAnswer answer s = .next t ∧ t.pending = s.pending := by
  unfold execAbandonedWriteAnswer
  split
  · split
    · exact ⟨_, rfl, s.abandonedDone_pending _⟩
    · exact ⟨_, rfl, rfl⟩
  · exact ⟨_, rfl, rfl⟩

/-- 08 R140. -/
theorem execApertureAccessRefused_pending (q : TrunkRequest) (s : State) :
    ∃ t : State, execApertureAccessRefused q s = .next t ∧ t.pending = s.pending := by
  unfold execApertureAccessRefused
  split
  · exact ⟨_, rfl, rfl⟩
  · split <;> exact ⟨_, rfl, rfl⟩

/-- Settles O2: row by row, each by what its operations leave unchanged. -/
theorem everyCommandAnswersANextState : Obligations.EveryCommandAnswersANextState := by
  intro c s
  cases c with
  | trunkRequest q => exact ⟨_, rfl, s.present_pending q⟩
  | apertureWrite r offset v => exact ⟨_, rfl, s.present_pending _⟩
  | apertureAccessRefused q => exact execApertureAccessRefused_pending q s
  | takeHead => exact execTakeHead_pending s
  | branchAck data => exact execBranchAck_pending data s
  | branchErr => exact ⟨_, rfl, s.endItem_pending _⟩
  | recordWrite => exact execRecordWrite_pending s
  | abandonedWriteAnswer answer => exact execAbandonedWriteAnswer_pending answer s
  | handshakeLimitExpiry => exact State.pending_ite s.expireHandshake_pending
  | holdExpiry i => exact State.pending_ite (s.expireHold_pending i)
  | warmUpExpiry => exact State.pending_ite s.expireWarmUp_pending
  | recordWriteDone => exact State.pending_ite (by simp [State.recordDelivered])
  | recordWriteWait | signalWriteWait => exact State.pending_ite (s.writeWait_pending _)
  | idleTimerExpiry | recordWriteFault | signalWriteDone | signalWriteFault | hardResetRelease => exact State.pending_ite rfl
  | commit r => exact s.pending_gate r _ (s.takeCommand_pending r 0 .commit)
  | revert r => exact s.pending_gate r _ (s.takeCommand_pending r 0 .revert)
  | unfence r argument => exact s.pending_gate r _ (s.takeCommand_pending r argument .unfence)
  | flush r => exact s.pending_gate r _ (s.takeCommand_pending r 0 .flush)
  | reclaimPop r => exact s.pending_gate r _ (s.takeCommand_pending r 0 .reclaimPop)
  | reclaimClear r => exact s.pending_gate r _ (s.takeCommand_pending r 0 .reclaimClear)
  | noticeStart r => exact s.pending_gate r _ (s.takeCommand_pending r 0 .noticeStart)
  | noticeStop r => exact s.pending_gate r _ (s.takeCommand_pending r 0 .noticeStop)
  | park r => exact s.pending_gate r _ (s.takeCommand_pending r 0 .park)
  | wake r => exact s.pending_gate r _ (s.takeCommand_pending r 0 .wake)
  | branchAbort r => exact s.pending_gate r _ (s.takeCommand_pending r 0 .branchAbort)
  | timeSet r => exact s.pending_gate r _ (s.takeCommand_pending r 0 .timeSet)
  | bridgeReset r => exact s.pending_gate r _ (s.takeCommand_pending r 0 .bridgeReset)
  | unknownCommand r code => exact s.pending_gate r _ (s.commandWrite_pending r code 0)
  | requesterQuotaWrite r v => exact s.pending_gate r _ (s.writeSetting_pending r .requesterQuota v)
  | holdLimitWrite r v => exact s.pending_gate r _ (s.writeSetting_pending r .holdLimit v)
  | managementWriteMaskWrite r v => exact s.pending_gate r _ (s.writeSetting_pending r .writeMask v)
  | warmUpWrite r v => exact s.pending_gate r _ (s.writeSetting_pending r .warmUp v)
  | autoParkIntervalWrite r v => exact s.pending_gate r _ (s.writeSetting_pending r .autoPark v)
  | noticeConfigurationWrite r field v => exact s.pending_gate r _ (s.configWrite_pending r field v)
  | consumerCounterWrite r v => exact s.pending_gate r _ (s.consumerWrite_pending r v)
  | hardReset cause => exact ⟨_, rfl, rfl⟩

/-- Settles O1: the step on a queue with a command in front. -/
theorem stepTakesFrontCommand : Obligations.StepTakesFrontCommand := step_cons

end Sys2Proof.Machine

/-! What the Trunk port answers: every request has its answer, and a fault given by a check changes nothing but for
ACCESS_DENIED. -/

namespace Sys2Proof.Machine

/-! ### The ways a request is answered -/

/-- 08 R137, R143: how a request can be answered. A check of steps 1, 2, 5, 6 and 8 refuses it with the answer alone, step 7 with
ACCESS_DENIED besides, a live entry with its key outside the aperture answers it in any way, and all else with no fault. -/
inductive State.Replied (s : State) (q : TrunkRequest) (t : State) : Prop
  | refused (code : FaultCode) (same : t = s.answer (.fault code))
  | denied (w : WindowNo) (clear : (s.window.active.get w).permission.getLsbD q.requester.val = false)
      (told : t = (s.generate (s.deniedEvent q w)).answer (.fault .denied))
  | fromEntry (i : Slot) (a : Answer) (outside : s.inAperture q.address = false) (live : s.liveKey i = some q.key)
      (given : t.port.answer = some a)
  | served (a : Answer) (given : t.port.answer = some a) (faultless : ∀ code : FaultCode, a ≠ .fault code)

/-- 08 R140, R147. -/
theorem State.apertureGate_replied (s : State) (q : TrunkRequest) (r : Requester) (f : State → State) :
    s.Replied q (s.apertureGate r f) := by
  unfold State.apertureGate
  split
  · exact .served .wait rfl (by simp)
  · split
    · exact .served (.done []) rfl (by simp)
    · exact .refused .denied rfl

/-- 08 R138 step 2. -/
theorem State.apertureRequest_replied (s : State) (q : TrunkRequest) : s.Replied q (s.apertureRequest q) := by
  unfold State.apertureRequest
  split
  · unfold State.apertureAccess
    split
    · exact .served (.done _) rfl (by simp)
    · exact s.apertureGate_replied ..
    · exact .refused .form rfl
  · exact .refused .form rfl

/-- 02 R27, R28: a live entry answers. -/
theorem State.answerEntry_answer (s : State) (i : Slot) (e : Entry) (q : TrunkRequest) :
    ∃ a : Answer, (s.answerEntry i e q).port.answer = some a := by
  unfold State.answerEntry
  split
  · exact ⟨_, rfl⟩
  · split <;> exact ⟨_, rfl⟩

/-- 06 R110: a late delivery answers with the record's data. -/
theorem State.lateDeliver_answer (s : State) {k : Nat} {r : ReclaimRecord} (found : s.reclaim.records[k]? = some r) :
    (s.lateDeliver k).port.answer = some (.done r.data) := by
  simp only [State.lateDeliver, found]; rfl

/-- 08 R144: admission answers DONE or WAIT. -/
theorem State.admission_replied (s : State) (q : TrunkRequest) (w : WindowNo) : s.Replied q (s.admission q w) := by
  have delayed (route : Route) : s.Replied q (s.admitDelayed q route) := by
    unfold State.admitDelayed
    split <;> exact .served .wait rfl (by simp)
  have posted (words : List LaneWord) (route : Route) : s.Replied q (s.admitPosted q words route) := by
    unfold State.admitPosted
    split
    · exact .served (.done []) rfl (by simp)
    · exact .served .wait rfl (by simp)
  simp only [State.admission]
  split
  · exact .served _ rfl (by simp [TrunkRequest.zeroAnswer_eq])
  · split
    · exact delayed _
    · split
      · exact posted _ _
      · exact delayed _

/-- 08 R142 to R144. -/
theorem State.windowRequest_replied (s : State) (q : TrunkRequest) : s.Replied q (s.windowRequest q) := by
  unfold State.windowRequest
  split
  · exact .refused .noRoute rfl
  · next w _ =>
    split
    · exact .refused .span rfl
    · split
      · next clear => exact .denied w (by simpa [WindowRecord.permits] using clear) rfl
      · split
        · exact .refused .fenced rfl
        · exact s.admission_replied q w

/-- 08 R138 steps 3 to 9. -/
theorem State.matchOrPass_replied (s : State) (q : TrunkRequest) (outside : s.inAperture q.address = false) :
    s.Replied q (s.matchOrPass q) := by
  cases found : s.matchLive q with
  | some i =>
    have live := s.matchLive_eq_some q i found
    obtain ⟨e, slot, -⟩ := (s.liveKey_eq_some i q.key).mp live
    obtain ⟨a, given⟩ := s.answerEntry_answer i e q
    rw [s.matchOrPass_live q found slot]
    exact .fromEntry i a outside live given
  | none =>
    rw [s.matchOrPass_pass q found, State.reclaimOrWindow]
    split
    · next k _ matched =>
      obtain ⟨r, record, -⟩ := s.matchReclaim_eq_some q matched
      exact .served _ (s.lateDeliver_answer record) (by simp)
    · exact s.windowRequest_replied q

/-- 08 R138: a request through the check sequence. -/
theorem State.present_replied (s : State) (q : TrunkRequest) : s.Replied q (s.present q) := by
  unfold State.present
  split
  · exact .served .wait rfl (by simp)
  · split
    · exact .refused .form rfl
    · split
      · exact s.apertureRequest_replied q
      · next outside => exact s.matchOrPass_replied q (by simpa using outside)

/-- 08 R137: a request is answered when presented. -/
theorem State.Replied.answered {s t : State} {q : TrunkRequest} (replied : s.Replied q t) :
    ∃ a : Answer, t.port.answer = some a := by
  cases replied with
  | refused code same => exact ⟨_, by rw [same]; rfl⟩
  | denied w clear told => exact ⟨_, by rw [told]; rfl⟩
  | fromEntry i a outside live given => exact ⟨a, given⟩
  | served a given => exact ⟨a, given⟩

/-- 08 R147: while the reset pin holds the bridge a refused access is answered WAIT. -/
theorem exec_apertureAccessRefused_held (s : State) (q : TrunkRequest) (held : s.port.held = true) :
    exec (.apertureAccessRefused q) s = .next { s with port.answer := some .wait } := by
  rw [exec, execApertureAccessRefused, if_pos held]; rfl

/-- Settles O22: every way of answering gives an answer, and hard reset gives WAIT. -/
theorem everyRequestIsAnswered : Obligations.EveryRequestIsAnswered := by
  intro s q
  refine ⟨?_, fun held => ⟨?_, exec_apertureAccessRefused_held s q held⟩⟩
  · obtain ⟨a, given⟩ := (State.present_replied { s with port.answer := none } q).answered
    exact ⟨_, a, rfl, given⟩
  · rw [exec, execTrunkRequest, s.present_held q held]

/-! ### Faults -/

/-- 11 R168: the aux of ACCESS_DENIED, the word count in bits 3:0 and the kind in bit 8. -/
theorem auxAccessDenied_eq (kind : Kind) (count : Nat) :
    auxAccessDenied kind count = BitVec.ofNat 16 (count % 16 + 256 * Kind.code kind) := by
  have bit : Kind.code kind < 2 := by cases kind <;> decide
  have low := bits_toNat 0 4 count (by omega)
  apply BitVec.eq_of_toNat_eq
  rw [auxAccessDenied, auxOf, BitVec.toNat_setWidth, or_bits_toNat _ 8 1 _ (by omega) (by omega), low, BitVec.toNat_ofNat]
  omega

/-- 08 R143, 07 R119: the refusal of step 7, with its notice. -/
theorem State.denied_eq (s : State) (q : TrunkRequest) (w : WindowNo) :
    (s.generate (s.deniedEvent q w)).answer (.fault .denied) =
      { s.notified .accessDenied (some w) (some q.requester) s.window.epoch q.address
          (BitVec.ofNat 16 (q.access.count % 16 + 256 * Kind.code q.access.kind)) with
        port.answer := some (.fault .denied) } := by
  rw [State.generate_eq_notified, ← auxAccessDenied_eq]; rfl

/-- Settles O21: a fault that no live entry gave is a refusal, and step 7's is the one with a notice. -/
theorem checkFaultsChangeNothing : Obligations.CheckFaultsChangeNothing := by
  intro s q code unmatched t run given
  obtain rfl : s.present q = t := by injection run
  cases s.present_replied q with
  | refused code' same =>
    obtain rfl : code' = code := by simpa [same] using given
    exact .inl same
  | denied w clear told =>
    obtain rfl : FaultCode.denied = code := by simpa [told] using given
    exact .inr ⟨rfl, w, clear, told.trans (s.denied_eq q w)⟩
  | fromEntry i a outside live =>
    rcases unmatched with inside | fresh
    · simp [outside] at inside
    · exact absurd live (fresh i)
  | served a answer faultless =>
    exact absurd (Option.some.inj (answer.symm.trans given)) (faultless code)

/-! ### FORM -/

/-- 08 R139: the five conditions of a malformed request. -/
theorem TrunkRequest.malformed_iff (q : TrunkRequest) :
    q.malformed = true ↔
      q.access.count = 0 ∨ 8 < q.access.count ∨ q.address.toNat % 4 ≠ 0 ∨ 8 < q.address.toNat % 32 / 4 + q.access.count
        ∨ (1 < q.access.count ∧ ∃ m ∈ q.access.masks, m ≠ 0xF) := by
  simp [TrunkRequest.malformed, fullMask, or_assoc]

/-- Settles O27: step 1 of the check sequence. -/
theorem malformedRequestIsAnsweredForm : Obligations.MalformedRequestIsAnsweredForm := by
  intro s q out unformed
  rw [exec, execTrunkRequest, s.present_malformed q out ((TrunkRequest.malformed_iff q).mpr unformed)]

/-! ### Decode, permission and fence -/

/-- 08 R142, 01 R2: an address no valid window holds decodes to none. -/
theorem State.decodeWindow_eq_none (s : State) {a : Word}
    (uncovered : ∀ w : WindowNo, ¬(s.window.active.get w).HoldsByte a.toNat) : s.decodeWindow a = none := by
  rw [State.decodeWindow, List.find?_eq_none]
  exact fun w _ => mt (WindowRecord.covers_iff _ a).mp (uncovered w)

/-- 08 R142: a well-formed request that begins in a legal window ends in it. -/
theorem WindowRecord.holdsByte_lastByte (r : WindowRecord) (q : TrunkRequest) (legal : r.Legal) (formed : q.malformed = false)
    (inside : r.HoldsByte q.address.toNat) : r.HoldsByte (TrunkRequest.lastByte q) := by
  have last := r.lastByte_le_last q legal formed inside
  have counted : q.access.count ≠ 0 := fun empty => by simp [(TrunkRequest.malformed_iff q).mpr (.inl empty)] at formed
  obtain ⟨valid, above, -⟩ := inside
  exact ⟨valid, by rw [TrunkRequest.lastByte]; omega, last⟩

/-- 08 R143, R144: a request that decodes to a window passes SPAN and meets its permission and its fence flag in this order. -/
theorem State.exec_request_window (s : State) (q : TrunkRequest) (w : WindowNo) (sound : s.WindowsSound)
    (reaches : s.ReachesDecode q) (inside : (s.window.active.get w).HoldsByte q.address.toNat) :
    exec (.trunkRequest q) s =
      .next
        (if (s.window.active.get w).permission.getLsbD q.requester.val = false then
          (s.generate (s.deniedEvent q w)).answer (.fault .denied)
        else if s.fenced w = true then s.answer (.fault .fenced)
        else s.admission q w) := by
  have ⟨_, formed, _⟩ := reaches
  have span := (s.window.active.get w).lastByte_le_last q (sound.1 w inside.1) formed inside
  rw [exec, execTrunkRequest, s.present_of_reachesDecode q reaches, State.windowRequest]
  simp only [s.decodeWindow_eq sound inside]
  rw [if_neg (by omega)]
  simp only [WindowRecord.permits, Bool.not_eq_true']

/-- Settles O30: steps 5 to 8 of the check sequence. -/
theorem windowChecksInTheirOrder : Obligations.WindowChecksInTheirOrder := by
  intro s q sound reaches
  have ⟨_, formed, _⟩ := reaches
  refine ⟨fun uncovered => ?noRoute, fun w inside => ⟨?ends, fun clear => ?denied, fun permitted fenced => ?fenced⟩⟩
  case noRoute =>
    rw [exec, execTrunkRequest, s.present_of_reachesDecode q reaches, State.windowRequest]
    simp only [s.decodeWindow_eq_none uncovered]
    rfl
  case ends => exact (s.window.active.get w).holdsByte_lastByte q (sound.1 w inside.1) formed inside
  case denied =>
    have counted : ¬8 < q.access.count := fun long => by simp [(TrunkRequest.malformed_iff q).mpr (.inr (.inl long))] at formed
    rw [s.exec_request_window q w sound reaches inside, if_pos clear, s.denied_eq, Nat.mod_eq_of_lt (by omega)]
  case fenced =>
    rw [s.exec_request_window q w sound reaches inside, if_neg (by simp [permitted]), if_pos fenced]
    rfl

end Sys2Proof.Machine

/-! The aperture of the Trunk port: the rows its writes are, and the accesses it refuses. -/

namespace Sys2Proof.Machine

/-! ### Aperture writes -/

/-- 08 R140, R147: an aligned aperture write is its word's write under the gate. -/
theorem exec_apertureWrite_gate (s : State) (r : Requester) (offset : BitVec 12) (v : Word) (aligned : offset.toNat % 4 = 0) :
    exec (.apertureWrite r offset v) s =
      .next (s.apertureGate r (State.writeWord r (ApertureWord.ofOffset offset.toNat) v)) := by
  rw [exec, execApertureWrite]
  cases pin : s.port.held with
  | true => rw [s.present_held _ pin, s.apertureGate_held r _ pin]
  | false =>
    rw [State.apertureWriteRequest, s.present_word r _ pin offset.isLt aligned rfl, State.apertureAccess]

/-- 09 R150, 11 R167: a write to COMMAND is taken under the gate by bits 7:0, its code, and 15:8, its argument. -/
theorem exec_commandWord (s : State) (r : Requester) (v : Word) :
    exec (.apertureWrite r 0x200 v) s =
      .next (s.apertureGate r (State.commandWrite r (BitVec.ofNat 8 (v.toNat % 256)) (BitVec.ofNat 8 (v.toNat / 256)))) := by
  have code : v.extractLsb' 0 8 = BitVec.ofNat 8 (v.toNat % 256) := by
    apply BitVec.eq_of_toNat_eq; simp
  have argument : v.extractLsb' 8 8 = BitVec.ofNat 8 (v.toNat / 256) := by
    apply BitVec.eq_of_toNat_eq; simp [Nat.shiftRight_eq_div_pow]
  rw [exec_apertureWrite_gate s r 0x200 v (by decide), ← code, ← argument]
  rfl

/-- 09 R150, 11 11.7: a command's code is taken as the command. -/
theorem State.commandWrite_code (r : Requester) (argument : BitVec 8) (c : Command) :
    State.commandWrite r c.code argument = State.takeCommand r argument c := by
  cases c <;> rfl

/-- 09 R150: a code that names no command is taken without its argument. -/
theorem State.commandWrite_unnamed (r : Requester) (argument : BitVec 8) {code : BitVec 8}
    (unnamed : Command.ofCode code = none) : State.commandWrite r code argument = State.unknownCommand r code := by
  funext t
  simp only [State.commandWrite, unnamed]

/-- 09 R150, R152: a write to COMMAND whose code names a command is that command with its argument. -/
theorem exec_commandWord_named (s : State) (r : Requester) (v : Word) (c : Command) (code : v.toNat % 256 = c.code.toNat) :
    exec (.apertureWrite r 0x200 v) s =
      .next (s.apertureGate r (State.takeCommand r (BitVec.ofNat 8 (v.toNat / 256)) c)) := by
  rw [exec_commandWord, code, BitVec.ofNat_toNat, BitVec.setWidth_eq, State.commandWrite_code]

/-- 09 R150: a write to COMMAND whose code names no command is UNKNOWN_COMMAND, whatever its argument. -/
theorem exec_commandWord_unknown (s : State) (r : Requester) (v : Word) (unnamed : v.toNat % 256 = 0 ∨ 0x0D < v.toNat % 256) :
    exec (.apertureWrite r 0x200 v) s = exec (.unknownCommand r (BitVec.ofNat 8 (v.toNat % 256))) s := by
  have code : (BitVec.ofNat 8 (v.toNat % 256)).toNat = v.toNat % 256 := by simp
  have noCommand : Command.ofCode (BitVec.ofNat 8 (v.toNat % 256)) = none :=
    Command.ofCode_eq_none (unnamed.imp (fun zero => by rw [zero]; rfl) (by rw [code]; exact id))
  rw [exec_commandWord, exec, execUnknownCommand, State.commandWrite_unnamed r _ noCommand,
    State.commandWrite_unnamed r 0 noCommand]

/-- Settles O24: a write is the gate with its word's effect, and so is the word's own row. -/
theorem apertureWritesAreTheirRows : Obligations.ApertureWritesAreTheirRows := by
  intro s r v
  have row {offset : BitVec 12} (aligned : offset.toNat % 4 = 0) := exec_apertureWrite_gate s r offset v aligned
  refine ⟨fun offset => rfl, row rfl, row rfl, row rfl, row rfl, row rfl, row rfl, row rfl, row rfl, row rfl, row rfl, row rfl,
    row rfl, ?_⟩
  rintro write rfl code rfl
  have command (c : Command) := exec_commandWord_named s r v c
  exact ⟨command .commit, command .revert, command .unfence, command .flush, command .reclaimPop, command .reclaimClear,
    command .noticeStart, command .noticeStop, command .park, command .wake, command .branchAbort, command .timeSet,
    command .bridgeReset, exec_commandWord_unknown s r v⟩

/-! ### Refusals -/

/-- 08 R140: a well-formed row that an aperture write carries has its effect under the gate. -/
theorem exec_commandWriter (s : State) (c : Instr) {r : Requester} (formed : c.wellFormed = true)
    (writer : commandWriter c = some r) : ∃ effect : State → State, exec c s = .next (s.apertureGate r effect) := by
  cases c with
  | apertureWrite writing offset v =>
    obtain rfl : writing = r := Option.some.inj writer
    have aligned : offset.toNat % 4 = 0 := by
      simp only [Instr.wellFormed, Bool.and_eq_true, beq_iff_eq] at formed
      exact formed.1
    exact ⟨_, exec_apertureWrite_gate s writing offset v aligned⟩
  | trunkRequest | takeHead | branchAck | branchErr | handshakeLimitExpiry | holdExpiry | warmUpExpiry | idleTimerExpiry
  | recordWrite | recordWriteDone | recordWriteWait | recordWriteFault | signalWriteDone | signalWriteWait | signalWriteFault
  | abandonedWriteAnswer | hardReset | hardResetRelease | apertureAccessRefused => cases writer
  | _ => cases writer; exact ⟨_, rfl⟩

/-- 08 R140: the right shape is one word with a full mask. -/
theorem Access.singleFull_iff {a : Access} : a.singleFull = true ↔ a.masks = [0xF] := by
  cases a with
  | read masks =>
    rcases masks with _ | ⟨m, _ | ⟨n, rest⟩⟩ <;> simp [Access.singleFull, Access.masks]
  | write words =>
    rcases words with _ | ⟨m, _ | ⟨n, rest⟩⟩ <;> simp [Access.singleFull, Access.masks]

/-- 08 R140 rule 3: a WRITE of the right shape from a requester whose bit is clear. -/
theorem State.apertureAccess_denied (s : State) (r : Requester) (word : ApertureWord) {access : Access}
    (out : s.port.held = false) (full : access.singleFull = true) (write : access.isWrite = true) (clear : s.mayWriteAperture r = false) :
    s.apertureAccess r word access = { s with port.answer := some (.fault .denied) } := by
  unfold State.apertureAccess
  split
  · cases write
  · exact s.apertureGate_denied r _ out clear
  · next words single =>
    rcases words with _ | ⟨w, _ | ⟨x, rest⟩⟩
    · cases full
    · exact absurd rfl (single w)
    · cases full

/-- 08 R138 step 2, R140: a request the aperture refuses is answered with the fault. -/
theorem State.present_refused (s : State) (q : TrunkRequest) {code : FaultCode} (out : s.port.held = false)
    (refusal : s.apertureRefusal q = some code) : s.present q = { s with port.answer := some (.fault code) } := by
  unfold State.apertureRefusal at refusal
  split at refusal
  · cases refusal
  · next inside =>
    replace inside : s.inAperture q.address = true := by simpa using inside
    by_cases unformed : q.malformed = true
    · obtain rfl : FaultCode.form = code := by simpa [unformed] using refusal
      exact s.present_malformed q out unformed
    · rw [s.present_aperture q out (by simpa using unformed) inside, State.apertureRequest]
      by_cases full : q.access.singleFull = true
      · simp only [unformed, full, Bool.not_true, Bool.or_self, Bool.false_eq_true, if_false] at refusal
        rw [if_pos full]
        split at refusal
        · next judged =>
          obtain rfl := Option.some.inj refusal
          obtain ⟨write, clear⟩ := Bool.and_eq_true_iff.mp judged
          exact s.apertureAccess_denied q.requester _ out full write (by simpa using clear)
        · cases refusal
      · obtain rfl : FaultCode.form = code := by simpa [full] using refusal
        rw [if_neg full]; rfl

/-- 08 R140: APERTURE_ACCESS_REFUSED and TRUNK_REQUEST answer a request the aperture refuses with the same fault. -/
theorem State.exec_refused (s : State) (q : TrunkRequest) {code : FaultCode} (out : s.port.held = false)
    (refusal : s.apertureRefusal q = some code) :
    exec (.apertureAccessRefused q) s = .next { s with port.answer := some (.fault code) }
      ∧ exec (.trunkRequest q) s = .next { s with port.answer := some (.fault code) } := by
  constructor
  · rw [exec, execApertureAccessRefused, if_neg (by simp [out]), refusal]; rfl
  · rw [exec, execTrunkRequest, s.present_refused q out refusal]

/-- 08 R139, R140 rule 1: the shape of an access comes first. -/
theorem State.apertureRefusal_form (s : State) (q : TrunkRequest) (inside : s.inAperture q.address = true)
    (unshaped : q.malformed = true ∨ q.access.masks ≠ [0xF]) : s.apertureRefusal q = some .form := by
  have shape : (q.malformed || !q.access.singleFull) = true := by
    rcases unshaped with unformed | partly
    · simp [unformed]
    · simp [mt Access.singleFull_iff.mp partly]
  rw [State.apertureRefusal, if_neg (by simp [inside]), if_pos shape]

/-- 08 R140 rule 3, R141: then a WRITE is judged by the write mask. -/
theorem State.apertureRefusal_denied (s : State) (q : TrunkRequest) (inside : s.inAperture q.address = true)
    (formed : q.malformed = false) (full : q.access.masks = [0xF]) (write : q.access.kind = .write)
    (clear : s.mayWriteAperture q.requester = false) : s.apertureRefusal q = some .denied := by
  have writes : q.access.isWrite = true := by
    cases access : q.access with
    | read => simp [access, Access.kind] at write
    | write => rfl
  rw [State.apertureRefusal, if_neg (by simp [inside]), if_neg (by simp [formed, Access.singleFull_iff.mpr full]),
    if_pos (by simp [writes, clear])]

/-- Settles O23: the gate refuses a row, and the port an access. -/
theorem theApertureRefusesAnAccess : Obligations.TheApertureRefusesAnAccess := by
  refine ⟨fun s c r formed writer => ?rows, fun s q out inside => ⟨fun unshaped => ?form, fun formed full write clear => ?denied⟩⟩
  case rows =>
    obtain ⟨effect, run⟩ := exec_commandWriter s c formed writer
    exact ⟨fun held => by rw [run, s.apertureGate_held r effect held],
      fun out clear => by rw [run, s.apertureGate_denied r effect out clear]⟩
  case form => exact s.exec_refused q out (s.apertureRefusal_form q inside unshaped)
  case denied => exact s.exec_refused q out (s.apertureRefusal_denied q inside formed full write clear)

end Sys2Proof.Machine

/-! The five settings of the management unit: which values a write takes, and what a new auto-park interval does to the idle timer. -/

namespace Sys2Proof.Machine

/-! ### A settings write -/

/-- 09 R154: what an accepted write to a settings word answers, given the setting's range as a proposition. -/
theorem State.settingWrite_accepted (s : State) (r : Requester) {inRange : Bool} {range : Prop} [Decidable range]
    (decides : inRange = true ↔ range) (taken : State → State) (accepted : s.accepts r) :
    (.next (s.apertureGate r (State.settingWrite r inRange taken)) : Host.Outcome State Fault Refusal) =
      if range then .next ((taken s).reported .settingWrite r .done .none 0)
      else .next (s.reported .settingWrite r .refused .field 0) := by
  rw [s.apertureGate_accepted r _ accepted, State.settingWrite]
  by_cases legal : range
  · rw [if_pos (decides.mpr legal), if_pos legal, State.resultDone_answer]
  · rw [if_neg (mt decides.mp legal), if_neg legal, State.resultRefused_answer]

/-! ### The auto-park interval -/

/-- 09 R154: a value in range, as an interval. -/
theorem setWidth_eq_interval_iff (v : Word) (interval : BitVec 8) (legal : v.toNat ≤ 255) :
    v.setWidth 8 = interval ↔ v.toNat = interval.toNat := by
  rw [← BitVec.toNat_inj, BitVec.toNat_setWidth, Nat.mod_eq_of_lt (by omega)]

/-- 10 R164: the idle timer an interval in range starts. -/
theorem idleStart_setWidth (v : Word) (legal : v.toNat ≤ 255) :
    idleStart (v.setWidth 8) = if v.toNat = 0 then none else some (1000 * v.toNat) := by
  have value : (v.setWidth 8).toNat = v.toNat := by rw [BitVec.toNat_setWidth, Nat.mod_eq_of_lt (by omega)]
  rw [idleStart, value]
  exact if_congr (setWidth_eq_interval_iff v 0 legal) rfl rfl

/-- 10 R164: the idle timer runs after a new interval when it ran before, or when the engine is RUNNING with no item. -/
theorem State.idleTimerRuns_iff (s : State) :
    (s.branch.idleTimer.isSome || (s.branch.power == .running && s.idle)) = true ↔
      s.branch.idleTimer ≠ none ∨ (s.branch.power = .running ∧ s.branch.active = none ∧ s.branch.issueOrder = []) := by
  simp [State.idle, Option.isSome_iff_ne_none]

/-- 09 R154: AUTO_PARK_INTERVAL_WRITE takes 0 to 255. -/
theorem exec_autoParkIntervalWrite (s : State) (r : Requester) (v : Word) (accepted : s.accepts r) :
    exec (.autoParkIntervalWrite r v) s =
      if v.toNat ≤ 255 then
        .next ((if v.setWidth 8 = s.mgmt.autoPark then s else s.takeAutoPark (v.setWidth 8)).reported .settingWrite r .done
          .none 0)
      else .next (s.reported .settingWrite r .refused .field 0) :=
  s.settingWrite_accepted r decide_eq_true_iff _ accepted

/-- Settles O58: each setting's range under the gate, and for the auto-park interval whether its value is new. -/
theorem settingsAreTakenInRange : Obligations.SettingsAreTakenInRange := by
  intro s r v accepted taken refused
  refine ⟨?quota, ?holdLimit, ?writeMask, ?warmUp, fun above => ?outside, fun held => ?held, fun legal new => ?new⟩
  case quota =>
    rw [BitVec.ofNat_toNat]
    exact s.settingWrite_accepted r (by simp) _ accepted
  case holdLimit =>
    rw [BitVec.ofNat_toNat]
    exact s.settingWrite_accepted r decide_eq_true_iff _ accepted
  case writeMask =>
    rw [BitVec.ofNat_toNat]
    exact s.settingWrite_accepted r (by simp) _ accepted
  case warmUp =>
    rw [BitVec.ofNat_toNat]
    exact s.settingWrite_accepted r (by simp) _ accepted
  case outside => rw [exec_autoParkIntervalWrite s r v accepted, if_neg (Nat.not_le.mpr above)]
  case held =>
    have legal : v.toNat ≤ 255 := held ▸ Nat.le_of_lt_succ s.mgmt.autoPark.isLt
    rw [exec_autoParkIntervalWrite s r v accepted, if_pos legal, if_pos ((setWidth_eq_interval_iff v _ legal).mpr held)]
  case new =>
    rw [exec_autoParkIntervalWrite s r v accepted, if_pos legal, if_neg (mt (setWidth_eq_interval_iff v _ legal).mp new)]
    simp only [State.takeAutoPark, s.idleTimerRuns_iff, idleStart_setWidth v legal, BitVec.ofNat_toNat]

end Sys2Proof.Machine

/-! Branch parking row by row: PARK, WAKE and the expiries of the warm-up timer and the idle timer. -/

namespace Sys2Proof.Machine

/-! ### Idleness and the idle timer -/

/-- 04 R84: the engine is idle with no item ACTIVE and an empty list. -/
theorem State.idle_iff (s : State) : s.idle = true ↔ s.branch.active = none ∧ s.branch.issueOrder = [] := by
  simp [State.idle]

/-- 04 R84: the engine is busy with an item ACTIVE or one waiting. -/
theorem State.idle_eq_false_iff (s : State) : s.idle = false ↔ s.branch.active ≠ none ∨ s.branch.issueOrder ≠ [] := by
  rw [← Bool.not_eq_true, s.idle_iff, not_and_or]

/-- 10 R164: an interval starts the idle timer unless it is 0. -/
theorem idleStart_isSome (interval : BitVec 8) : (idleStart interval).isSome = true ↔ interval ≠ 0 := by
  unfold idleStart
  split
  · next zero => simp [zero]
  · next nonzero => exact iff_of_true rfl nonzero

/-! ### PARK and WAKE by the power state -/

section
variable (s : State) (r : Requester)

theorem State.park_running (power : s.branch.power = .running) :
    s.park r = s.parkRunning.resultDone (.command .park) r 0 := by
  simp only [State.park, power]

/-- 10 R162: the Branch is parked, or will be. -/
theorem State.park_parked (power : s.branch.power = .parking ∨ s.branch.power = .parked) :
    s.park r = s.resultDone (.command .park) r 0 := by
  rcases power with power | power <;> simp only [State.park, power]

theorem State.park_waking (power : s.branch.power = .waking) :
    s.park r = State.resultDone { s with branch.parkAfterWake := true } (.command .park) r 0 := by
  simp only [State.park, power]

theorem State.wake_running (power : s.branch.power = .running) : s.wake r = s.resultDone (.command .wake) r 0 := by
  simp only [State.wake, power]

theorem State.wake_parking (power : s.branch.power = .parking) :
    s.wake r = State.resultDone { s with branch.power := .running } (.command .wake) r 0 := by
  simp only [State.wake, power]

theorem State.wake_parked (power : s.branch.power = .parked) :
    s.wake r = s.beginWake.resultDone (.command .wake) r 0 := by
  simp only [State.wake, power]

theorem State.wake_waking (power : s.branch.power = .waking) :
    s.wake r = State.resultDone { s with branch.parkAfterWake := false } (.command .wake) r 0 := by
  simp only [State.wake, power]

/-- 10 R162: an idle Branch is parked at once. -/
theorem State.parkRunning_idle (idle : s.idle = true) :
    s.parkRunning = { s with branch.power := .parked, branch.idleTimer := none } := by
  rw [State.parkRunning, if_pos idle]

/-- 10 R162: a busy Branch finishes its items first. -/
theorem State.parkRunning_busy (busy : s.idle = false) :
    s.parkRunning = { s with branch.power := .parking, branch.idleTimer := none } := by
  rw [State.parkRunning, if_neg (by simp [busy])]

/-- 10 R162: PARK, written by a requester that may. -/
theorem State.exec_park {s t : State} (accepted : s.accepts r) (effect : s.park r = t.resultDone (.command .park) r 0) :
    exec (.park r) s = .next (t.reported (.command .park) r .done .none 0) := by
  rw [exec, execPark, s.apertureGate_accepted r _ accepted, effect, State.resultDone_answer]

/-- 10 R163: WAKE, written by a requester that may. -/
theorem State.exec_wake {s t : State} (accepted : s.accepts r) (effect : s.wake r = t.resultDone (.command .wake) r 0) :
    exec (.wake r) s = .next (t.reported (.command .wake) r .done .none 0) := by
  rw [exec, execWake, s.apertureGate_accepted r _ accepted, effect, State.resultDone_answer]

end

/-- Settles O44: PARK and WAKE in each power state, and in RUNNING by whether the engine is idle. -/
theorem parkAndWakeByState : Obligations.ParkAndWakeByState := by
  intro s r accepted park wake
  refine ⟨fun power busy => ?busy, fun power inactive empty => ?idle, fun power => ?parking, fun power => ?parked,
    fun power => ?waking⟩
  case busy =>
    have parked := s.park_running r power
    rw [s.parkRunning_busy (s.idle_eq_false_iff.mpr busy)] at parked
    exact ⟨State.exec_park r accepted parked, State.exec_wake r accepted (s.wake_running r power)⟩
  case idle =>
    have parked := s.park_running r power
    rw [s.parkRunning_idle (s.idle_iff.mpr ⟨inactive, empty⟩)] at parked
    exact ⟨State.exec_park r accepted parked, State.exec_wake r accepted (s.wake_running r power)⟩
  case parking =>
    exact ⟨State.exec_park r accepted (s.park_parked r (.inl power)),
      State.exec_wake r accepted (s.wake_parking r power)⟩
  case parked =>
    exact ⟨State.exec_park r accepted (s.park_parked r (.inr power)), State.exec_wake r accepted (s.wake_parked r power)⟩
  case waking =>
    exact ⟨State.exec_park r accepted (s.park_waking r power), State.exec_wake r accepted (s.wake_waking r power)⟩

/-! ### The expiries -/

/-- 10 R163: the warm-up timer expires with the mark set. -/
theorem State.expireWarmUp_marked (s : State) (marked : s.branch.parkAfterWake = true) :
    s.expireWarmUp =
      { s with
        branch.power := if s.idle then .parked else .parking
        branch.parkAfterWake := false
        branch.warmUpTimer := none } := by
  rw [State.expireWarmUp, if_pos marked]

/-- 10 R163, R164: the warm-up timer expires with no mark. -/
theorem State.expireWarmUp_unmarked (s : State) (unmarked : s.branch.parkAfterWake = false) :
    s.expireWarmUp =
      { s with
        branch.power := .running
        branch.warmUpTimer := none
        branch.idleTimer := if s.idle then idleStart s.mgmt.autoPark else none } := by
  rw [State.expireWarmUp, if_neg (by simp [unmarked])]

/-- 10 R164: the idle timer of a Branch that becomes RUNNING. -/
theorem State.idleTimerStarted (s : State) :
    (if s.idle then idleStart s.mgmt.autoPark else none) =
      if s.branch.active = none ∧ s.branch.issueOrder = [] ∧ s.mgmt.autoPark ≠ 0 then some (1000 * s.mgmt.autoPark.toNat)
      else none := by
  by_cases idle : s.idle = true
  · obtain ⟨inactive, empty⟩ := s.idle_iff.mp idle
    simp [idle, idleStart, inactive, empty, Config.millisecond]
  · rw [if_neg idle, if_neg]
    rintro ⟨inactive, empty, -⟩
    exact idle (s.idle_iff.mpr ⟨inactive, empty⟩)

/-- Settles O43: each expiry by whether its timer stands at zero, the warm-up timer's by the mark. -/
theorem parkingTimersExpire : Obligations.ParkingTimersExpire := by
  intro s
  refine ⟨fun due => ⟨fun unmarked => ?unmarked, fun marked => ?marked⟩, fun left => if_neg left, fun due => if_pos due,
    fun left => if_neg left⟩
  case unmarked =>
    rw [exec, execWarmUpExpiry, if_pos due, s.expireWarmUp_unmarked unmarked, s.idleTimerStarted]
  case marked =>
    rw [exec, execWarmUpExpiry, if_pos due, s.expireWarmUp_marked marked]
    simp only [s.idle_iff]

end Sys2Proof.Machine

/-! The law on the branch power: what it asks in each power state, and the power events under it. -/

namespace Sys2Proof.Machine

/-! ### What the law asks -/

/-- 10 R161 to R164: the law on the branch power, power state by power state. -/
inductive State.PowerCase (s : State) : Prop
  | running (power : s.branch.power = .running) (warmUp : s.branch.warmUpTimer = none) (mark : s.branch.parkAfterWake = false)
      (timed : s.branch.idleTimer.isSome = true → s.idle = true)
      (starts : s.idle = true → s.mgmt.autoPark ≠ 0 → s.branch.idleTimer.isSome = true)
  | parking (power : s.branch.power = .parking) (warmUp : s.branch.warmUpTimer = none) (mark : s.branch.parkAfterWake = false)
      (untimed : s.branch.idleTimer = none) (busy : s.idle = false)
  | parked (power : s.branch.power = .parked) (warmUp : s.branch.warmUpTimer = none) (mark : s.branch.parkAfterWake = false)
      (untimed : s.branch.idleTimer = none) (idle : s.idle = true)
  | waking (power : s.branch.power = .waking) (warmUp : s.branch.warmUpTimer.isSome = true)
      (untimed : s.branch.idleTimer = none) (inactive : s.branch.active = none)

theorem State.powerSound_iff (s : State) : s.PowerSound ↔ s.PowerCase := by
  constructor
  · rintro ⟨parked, parking, waking, warmUp, mark, timed, starts⟩
    have still (awake : s.branch.power ≠ .waking) : s.branch.warmUpTimer = none ∧ s.branch.parkAfterWake = false :=
      ⟨by simpa using mt warmUp.mp awake, by simpa using mt mark awake⟩
    have untimed (power : s.branch.power ≠ .running) : s.branch.idleTimer = none := by
      simpa using mt (fun runs => (timed runs).1) power
    cases power : s.branch.power with
    | running =>
      obtain ⟨cold, unmarked⟩ := still (by simp [power])
      exact .running power cold unmarked (fun runs => (timed runs).2) (starts power)
    | parking =>
      obtain ⟨cold, unmarked⟩ := still (by simp [power])
      exact .parking power cold unmarked (untimed (by simp [power])) (parking power)
    | parked =>
      obtain ⟨cold, unmarked⟩ := still (by simp [power])
      exact .parked power cold unmarked (untimed (by simp [power])) (parked power)
    | waking => exact .waking power (warmUp.mpr power) (untimed (by simp [power])) (waking power)
  · intro law
    unfold State.PowerSound
    cases law with
    | running power warmUp mark timed starts => simpa [power, warmUp, mark] using ⟨timed, starts⟩
    | parking power warmUp mark untimed busy => simp [power, warmUp, mark, untimed, busy]
    | parked power warmUp mark untimed idle => simp [power, warmUp, mark, untimed, idle]
    | waking power warmUp untimed inactive => simp [power, warmUp, untimed, inactive]

/-- 10 R164: a RUNNING Branch with items has its idle timer stopped. -/
theorem State.PowerCase.running_busy {s : State} (power : s.branch.power = .running) (warmUp : s.branch.warmUpTimer = none)
    (mark : s.branch.parkAfterWake = false) (untimed : s.branch.idleTimer = none) (busy : s.idle = false) : s.PowerCase :=
  .running power warmUp mark (by simp [untimed]) (by simp [busy])

/-- What the law on the branch power speaks of beside the items: the power state, the mark, which timers run, and the auto-park
interval. -/
structure Powering where
  power : PowerState
  mark : Bool
  warming : Bool
  timing : Bool
  interval : BitVec 8

/-- The powering a state holds. -/
def State.powering (s : State) : Powering :=
  { power := s.branch.power, mark := s.branch.parkAfterWake, warming := s.branch.warmUpTimer.isSome,
    timing := s.branch.idleTimer.isSome, interval := s.mgmt.autoPark }

section
variable {s t : State}

theorem State.powering_eq (branch : t.branch = s.branch) (interval : t.mgmt.autoPark = s.mgmt.autoPark) :
    t.powering = s.powering := by
  simp only [State.powering, branch, interval]

/-- An event that leaves the powering and whether the engine is idle, and takes no item in WAKING. -/
theorem State.PowerSound.of_powering (sound : s.PowerSound) (same : t.powering = s.powering) (idle : t.idle = s.idle)
    (still : s.branch.power = .waking → s.branch.active = none → t.branch.active = none) : t.PowerSound := by
  simp only [State.powering, Powering.mk.injEq] at same
  obtain ⟨power, mark, warming, timing, interval⟩ := same
  obtain ⟨parked, parking, waking, rest⟩ := sound
  exact ⟨by rwa [power, idle], by rwa [power, idle], fun waits => still (power ▸ waits) (waking (power ▸ waits)),
    by rwa [power, mark, warming, timing, interval, idle]⟩

theorem State.PowerSound.of_branch (sound : s.PowerSound) (branch : t.branch = s.branch)
    (interval : t.mgmt.autoPark = s.mgmt.autoPark) : t.PowerSound :=
  sound.of_powering (State.powering_eq branch interval) (by simp only [State.idle, branch]) fun _ inactive => by
    rw [branch, inactive]

/-! ### The engine becomes idle or busy -/

theorem State.becomeIdle_parking (power : t.branch.power = .parking) :
    t.becomeIdle = { t with branch.power := .parked } := by
  simp only [State.becomeIdle, power]

theorem State.becomeIdle_running (power : t.branch.power = .running) :
    t.becomeIdle = { t with branch.idleTimer := idleStart t.mgmt.autoPark } := by
  simp only [State.becomeIdle, power]

theorem State.becomeIdle_waking (power : t.branch.power = .waking) : t.becomeIdle = t := by
  simp only [State.becomeIdle, power]

/-- 10 R162, R164: PARKING becomes PARKED, and in RUNNING the idle timer starts. -/
theorem State.PowerSound.becomeIdle (sound : s.PowerSound) (same : t.powering = s.powering)
    (still : s.branch.active = none → t.branch.active = none) (busy : s.idle = false) (idle : t.idle = true) :
    t.becomeIdle.PowerSound := by
  simp only [State.powering, Powering.mk.injEq] at same
  obtain ⟨power', mark', warming, timing, -⟩ := same
  rw [State.powerSound_iff]
  cases s.powerSound_iff.mp sound with
  | running power warmUp mark =>
    rw [State.becomeIdle_running (power'.trans power)]
    exact .running (power'.trans power) (by simpa [warmUp] using warming) (mark'.trans mark) (fun _ => idle)
      fun _ interval => (idleStart_isSome _).mpr interval
  | parking power warmUp mark untimed =>
    rw [State.becomeIdle_parking (power'.trans power)]
    exact .parked rfl (by simpa [warmUp] using warming) (mark'.trans mark) (by simpa [untimed] using timing) idle
  | parked _ _ _ _ was => simp [was] at busy
  | waking power warmUp untimed inactive =>
    rw [State.becomeIdle_waking (power'.trans power)]
    exact .waking (power'.trans power) (warming.trans warmUp) (by simpa [untimed] using timing) (still inactive)

/-- 04 R84: items leave, and with the last of them the engine becomes idle. -/
theorem State.PowerSound.settle (sound : s.PowerSound) (same : t.powering = s.powering)
    (still : s.branch.active = none → t.branch.active = none) (left : s.idle = true → t.idle = true) :
    (State.settle s t).PowerSound := by
  cases before : s.idle with
  | true =>
    rw [State.settle_of_kept (.inl before)]
    exact sound.of_powering same (by rw [before, left before]) fun _ => still
  | false =>
    unfold State.settle
    split
    · next ended => exact sound.becomeIdle same still before (by simpa [before] using ended)
    · next kept => exact sound.of_powering same (by simpa [before] using kept) fun _ => still

/-- 10 R163: an admission wakes a PARKED Branch. -/
theorem State.enqueue_parked (r : Ref) (power : s.branch.power = .parked) :
    s.enqueue r =
      State.beginWake { s with branch.issueOrder := s.branch.issueOrder ++ [r], branch.idleTimer := none } := by
  simp only [State.enqueue, if_pos power]

/-- 04 R67: an admission to any other Branch. -/
theorem State.enqueue_awake (r : Ref) (power : s.branch.power ≠ .parked) :
    s.enqueue r = { s with branch.issueOrder := s.branch.issueOrder ++ [r], branch.idleTimer := none } := by
  simp only [State.enqueue, if_neg power]

/-- 04 R67, 10 R163, R164: an engine that takes a reference is busy, and its idle timer stops. -/
theorem State.PowerSound.enqueue (sound : s.PowerSound) (r : Ref) : (s.enqueue r).PowerSound := by
  have busy : (s.enqueue r).idle = false := by simp [State.idle]
  rw [State.powerSound_iff]
  cases s.powerSound_iff.mp sound with
  | running power warmUp mark =>
    rw [State.enqueue_awake r (by simp [power])] at busy ⊢
    exact .running_busy power warmUp mark rfl busy
  | parking power warmUp mark =>
    rw [State.enqueue_awake r (by simp [power])] at busy ⊢
    exact .parking power warmUp mark rfl busy
  | parked power _ _ _ idle =>
    rw [State.enqueue_parked r power]
    exact .waking rfl rfl rfl (s.idle_iff.mp idle).1
  | waking power warmUp _ inactive =>
    rw [State.enqueue_awake r (by simp [power])]
    exact .waking power warmUp rfl inactive

/-! ### PARK, WAKE, the expiries and the auto-park interval -/

/-- 10 R162: PARK stops the idle timer. -/
theorem State.PowerSound.park (sound : s.PowerSound) (r : Requester) : (s.park r).PowerSound := by
  have law := s.powerSound_iff.mp sound
  cases law with
  | running power warmUp mark =>
    rw [s.park_running r power, State.powerSound_iff]
    cases idle : s.idle with
    | true => rw [s.parkRunning_idle idle]; exact .parked rfl warmUp mark rfl idle
    | false => rw [s.parkRunning_busy idle]; exact .parking rfl warmUp mark rfl idle
  | parking power => rw [s.park_parked r (.inl power)]; exact sound.of_branch rfl rfl
  | parked power => rw [s.park_parked r (.inr power)]; exact sound.of_branch rfl rfl
  | waking power warmUp untimed inactive =>
    rw [s.park_waking r power, State.powerSound_iff]
    exact .waking power warmUp untimed inactive

/-- 10 R163: a PARKING Branch is busy, so its idle timer stays stopped. -/
theorem State.PowerSound.wake (sound : s.PowerSound) (r : Requester) : (s.wake r).PowerSound := by
  have law := s.powerSound_iff.mp sound
  cases law with
  | running power => rw [s.wake_running r power]; exact sound.of_branch rfl rfl
  | parking power warmUp mark untimed busy =>
    rw [s.wake_parking r power, State.powerSound_iff]
    exact .running_busy rfl warmUp mark untimed busy
  | parked power _ _ untimed idle =>
    rw [s.wake_parked r power, State.powerSound_iff]
    exact .waking rfl rfl untimed (s.idle_iff.mp idle).1
  | waking power warmUp untimed inactive =>
    rw [s.wake_waking r power, State.powerSound_iff]
    exact .waking power warmUp untimed inactive

/-- 10 R163: a Branch warmed up has no item ACTIVE; it is RUNNING, or with the mark PARKING or PARKED. -/
theorem State.PowerSound.expireWarmUp (sound : s.PowerSound) (due : s.branch.warmUpTimer = some 0) :
    s.expireWarmUp.PowerSound := by
  cases s.powerSound_iff.mp sound with
  | running _ warmUp | parking _ warmUp | parked _ warmUp => simp [warmUp] at due
  | waking _ _ untimed =>
    rw [State.powerSound_iff]
    cases mark : s.branch.parkAfterWake <;> cases idle : s.idle
    case false.false =>
      rw [s.expireWarmUp_unmarked mark, idle]
      exact .running_busy rfl rfl mark rfl idle
    case false.true =>
      rw [s.expireWarmUp_unmarked mark, idle]
      exact .running rfl rfl mark (fun _ => idle) fun _ interval => (idleStart_isSome _).mpr interval
    case true.false =>
      rw [s.expireWarmUp_marked mark, idle]
      exact .parking rfl rfl rfl untimed idle
    case true.true =>
      rw [s.expireWarmUp_marked mark, idle]
      exact .parked rfl rfl rfl untimed idle

/-- 10 R164: the idle timer runs in RUNNING alone, while the engine is idle. -/
theorem State.PowerSound.expireIdle (sound : s.PowerSound) (due : s.branch.idleTimer = some 0) : s.expireIdle.PowerSound := by
  rw [State.powerSound_iff]
  cases s.powerSound_iff.mp sound with
  | running _ warmUp mark timed => exact .parked rfl warmUp mark rfl (timed (by simp [due]))
  | parking _ _ _ untimed | parked _ _ _ untimed | waking _ _ untimed => simp [untimed] at due

/-- 10 R164: a new interval starts the idle timer of an idle RUNNING Branch, and no other. -/
theorem State.PowerSound.takeAutoPark (sound : s.PowerSound) (v : BitVec 8) : (s.takeAutoPark v).PowerSound := by
  have stopped (runs : (s.branch.idleTimer.isSome || (s.branch.power == .running && s.idle)) = false) :
      (s.takeAutoPark v).branch.idleTimer = none := by
    simp [State.takeAutoPark, runs]
  rw [State.powerSound_iff]
  cases s.powerSound_iff.mp sound with
  | running power warmUp mark timed =>
    cases idle : s.idle with
    | true =>
      have starts : (s.takeAutoPark v).branch.idleTimer = idleStart v := by simp [State.takeAutoPark, power, idle]
      exact .running power warmUp mark (fun _ => idle) fun _ interval => starts ▸ (idleStart_isSome v).mpr interval
    | false =>
      have untimed : s.branch.idleTimer.isSome = false := by simpa [idle] using timed
      exact .running_busy power warmUp mark (stopped (by simp [untimed, idle])) idle
  | parking power warmUp mark untimed busy => exact .parking power warmUp mark (stopped (by simp [untimed, busy])) busy
  | parked power warmUp mark untimed idle => exact .parked power warmUp mark (stopped (by simp [untimed, power])) idle
  | waking power warmUp untimed inactive => exact .waking power warmUp (stopped (by simp [untimed, power])) inactive

end

end Sys2Proof.Machine

/-! The law on the branch power kept by every step. -/

namespace Sys2Proof.Machine

/-! ### What the end of an item leaves as it is -/

@[simp] theorem State.ownerTakes_powering (s : State) (r : Ref) (result : Result) :
    (s.ownerTakes r result).powering = s.powering := by
  obtain ⟨-, -, -, mgmt, -⟩ := s.ownerTakes_frame r result
  exact State.powering_eq (s.ownerTakes_branch r result) (by rw [mgmt])

/-- 04 R79 steps 3 and 4: a purge takes references alone. -/
@[simp] theorem State.engineReport_powering (s : State) (ending : Ending) (it : Item) (p : Progress) (index : BranchIndex) :
    (s.engineReport ending it p index).powering = s.powering := by
  cases ending with
  | ok => simp only [State.engineReport]; split <;> rfl
  | device | skipped => rfl
  | fenced => rw [State.engineReport, State.fenceHandling_eq]; rfl

@[simp] theorem State.disposeCancelled_powering (s : State) (e : Option Entry) (r : Result) :
    (s.disposeCancelled e r).powering = s.powering :=
  State.powering_eq (s.disposeCancelled_branch e r) (congrArg Settings.autoPark (s.disposeCancelled_steady e r).settings)

section
variable {s : State}

/-! ### The engine's rows -/

/-- 04 R79: the item that ends leaves an engine that was busy. -/
theorem State.PowerSound.endItem (sound : s.PowerSound) (ending : Ending) : (s.endItem ending).PowerSound := by
  rcases s.endItem_cases ending with same | ⟨p, it, active, item⟩
  · rwa [same]
  · rw [s.endItem_eq ending active item]
    refine sound.settle ?_ (by simp [active]) (by simp [State.idle, active])
    rw [disposeCancelled_powering, engineReport_powering, ownerTakes_powering]
    rfl

/-- 04 R70: the ACTIVE item goes on. -/
theorem State.PowerSound.progress (sound : s.PowerSound) {p : Progress} (active : s.branch.active = some p) (p' : Progress) :
    State.PowerSound { s with branch.active := some p' } :=
  sound.of_powering rfl (by simp [State.idle, active]) (by simp [active])

/-- 05 R90. -/
theorem State.PowerSound.expireHandshake (sound : s.PowerSound) : s.expireHandshake.PowerSound := by
  unfold State.expireHandshake
  split
  · exact sound
  · next p active =>
    split
    · exact sound
    · split
      · exact sound.progress active _
      · split <;> exact sound.endItem _

/-- 04 R69: nothing is taken in WAKING. -/
theorem State.not_waking_of_takeable {x : Ref × Item} (found : s.takeable = some x) : s.branch.power ≠ .waking := by
  intro power
  simp [s.takeable_eq_none (.inr (.inl power))] at found

/-- 04 R69: the engine is busy before a take and after it. -/
theorem execTakeHead_powerSound (sound : s.PowerSound) : ∃ t : State, execTakeHead s = .next t ∧ t.PowerSound := by
  unfold execTakeHead
  split
  · next r it found =>
    obtain ⟨-, order⟩ := State.head_of_takeable found
    have busy : s.idle = false := s.idle_eq_false_iff.mpr (.inr (by rw [order]; simp))
    refine ⟨_, rfl, sound.of_powering ?_ ?_ fun power => absurd power (State.not_waking_of_takeable found)⟩
    · cases r <;> rfl
    · rw [busy]; rfl
  · exact ⟨s, rfl, sound⟩

/-- 04 R76. -/
theorem execBranchAck_powerSound (data : HalfWord) (sound : s.PowerSound) :
    ∃ t : State, execBranchAck data s = .next t ∧ t.PowerSound := by
  unfold execBranchAck
  split
  · exact ⟨s, rfl, sound⟩
  · next p active =>
    split
    · exact ⟨s, rfl, sound⟩
    · next c _ =>
      have acked := sound.progress active (p.acked c data (s.activeLimit p))
      dsimp only
      split
      · exact ⟨_, rfl, acked⟩
      · exact ⟨_, rfl, acked.endItem _⟩

/-- 02 R37. -/
theorem State.PowerSound.expireHold (sound : s.PowerSound) (i : Slot) : (s.expireHold i).PowerSound := by
  unfold State.expireHold
  split
  · split
    · exact sound.of_branch (by simp) (by simp)
    · exact sound
  · exact sound

/-- 09 R156: time starts and stops no timer. -/
theorem State.PowerSound.elapse (sound : s.PowerSound) (n : Nat) : (s.elapse n).PowerSound := by
  by_cases held : s.port.held = true
  · rwa [s.elapse_held n held]
  · rw [s.elapse_out n (by simpa using held)]
    exact sound.of_powering (by simp [State.powering]) (by simp [State.idle]) (by simp)

/-! ### The notice engine's rows -/

/-- 07 R124. -/
theorem execRecordWrite_powerSound (sound : s.PowerSound) : ∃ t : State, execRecordWrite s = .next t ∧ t.PowerSound := by
  unfold execRecordWrite
  split
  · split
    · exact ⟨_, rfl, sound.of_branch rfl rfl⟩
    · exact ⟨s, rfl, sound⟩
  · exact ⟨s, rfl, sound⟩

/-- 07 R131. -/
theorem State.PowerSound.abandonedDone (sound : s.PowerSound) (restarted : Bool) : (s.abandonedDone restarted).PowerSound := by
  unfold State.abandonedDone
  split
  · exact sound.of_branch rfl rfl
  · split
    · exact sound.of_branch rfl rfl
    · exact sound.of_branch (by simp [State.recordLanded]) (by simp [State.recordLanded])
  · split <;> exact sound.of_branch rfl rfl

/-- 07 R131, R133. -/
theorem execAbandonedWriteAnswer_powerSound (answer : WriteAnswer) (sound : s.PowerSound) :
    ∃ t : State, execAbandonedWriteAnswer answer s = .next t ∧ t.PowerSound := by
  unfold execAbandonedWriteAnswer
  split
  · split
    · exact ⟨_, rfl, sound.abandonedDone _⟩
    · exact ⟨_, rfl, sound.of_branch rfl rfl⟩
  · exact ⟨s, rfl, sound⟩

/-! ### Commands -/

/-- 02 R40, 04 R84: FLUSH takes references, and with the last of them the engine becomes idle. -/
theorem State.PowerSound.flush (sound : s.PowerSound) (r : Requester) : (s.flush r).PowerSound := by
  have refs : (s.flushTold r).branch = { s.branch with issueOrder := s.refsFlushed (List.finRange 8) } := rfl
  have mgmt : (s.flushTold r).mgmt = s.mgmt := by simp [State.flushTold, State.flushed]
  have settled : (State.settle s (s.flushTold r)).PowerSound := by
    refine sound.settle ?_ (by simp [refs]) fun idle => ?_
    · simp only [State.powering, refs, mgmt]
    · obtain ⟨inactive, empty⟩ := s.idle_iff.mp idle
      simp [State.idle_iff, refs, State.refsFlushed, inactive, empty]
  rw [s.flush_eq r]
  exact settled.of_branch rfl rfl

/-- 10 R166: soft reset leaves the Branch RUNNING and idle, with its idle timer started. -/
theorem State.bridgeReset_powerSound (s : State) (r : Requester) : (s.bridgeReset r).PowerSound := by
  rw [s.bridgeReset_eq r, State.powerSound_iff]
  exact .running rfl rfl rfl (fun _ => rfl) fun _ interval => (idleStart_isSome _).mpr interval

/-- 05 R100. -/
theorem State.PowerSound.branchAbort (sound : s.PowerSound) (r : Requester) : (s.branchAbort r).PowerSound := by
  unfold State.branchAbort
  split
  · exact (sound.endItem _).of_branch rfl rfl
  · exact sound.of_branch rfl rfl

theorem State.PowerSound.takeCommand (sound : s.PowerSound) (r : Requester) (argument : BitVec 8) (c : Command) :
    (s.takeCommand r argument c).PowerSound := by
  cases c with
  | commit => simp only [State.takeCommand, State.commit]; split <;> exact sound.of_branch rfl rfl
  | unfence =>
    simp only [State.takeCommand, State.unfence]
    split
    · split <;> exact sound.of_branch rfl rfl
    · exact sound.of_branch rfl rfl
  | flush => exact sound.flush r
  | reclaimPop => simp only [State.takeCommand, State.reclaimPop]; split <;> exact sound.of_branch rfl rfl
  | noticeStart =>
    simp only [State.takeCommand, State.noticeStart]
    split
    · split
      · exact sound.of_branch rfl rfl
      · split <;> exact sound.of_branch rfl rfl
    · exact sound.of_branch rfl rfl
    · exact sound.of_branch rfl rfl
  | park => exact sound.park r
  | wake => exact sound.wake r
  | branchAbort => exact sound.branchAbort r
  | bridgeReset => exact s.bridgeReset_powerSound r
  | revert | reclaimClear | noticeStop | timeSet => exact sound.of_branch rfl rfl

theorem State.PowerSound.commandWrite (sound : s.PowerSound) (r : Requester) (code argument : BitVec 8) :
    (s.commandWrite r code argument).PowerSound := by
  unfold State.commandWrite
  split
  · exact sound.takeCommand r argument _
  · exact sound.of_branch rfl rfl

/-! ### Aperture writes -/

/-- 09 R154, 10 R164: the auto-park interval alone concerns the Branch. -/
theorem State.PowerSound.writeSetting (sound : s.PowerSound) (r : Requester) (which : Setting) (v : Word) :
    (s.writeSetting r which v).PowerSound := by
  have setting (inRange : Bool) {taken : State → State} (effect : (taken s).PowerSound) :
      (State.settingWrite r inRange taken s).PowerSound := by
    unfold State.settingWrite
    split
    · exact effect.of_branch rfl rfl
    · exact sound.of_branch rfl rfl
  cases which with
  | requesterQuota | holdLimit | writeMask | warmUp => exact setting _ (sound.of_branch rfl rfl)
  | autoPark =>
    refine setting _ ?_
    split
    · exact sound
    · exact sound.takeAutoPark _

theorem State.PowerSound.configWrite (sound : s.PowerSound) (r : Requester) (field : ConfigField) (v : Word) :
    (s.configWrite r field v).PowerSound := by
  unfold State.configWrite
  split
  · split <;> exact sound.of_branch rfl rfl
  · exact sound.of_branch rfl rfl

theorem State.PowerSound.consumerWrite (sound : s.PowerSound) (r : Requester) (v : Word) :
    (s.consumerWrite r v).PowerSound := by
  simp only [State.consumerWrite]
  split <;> exact sound.of_branch rfl rfl

theorem State.PowerSound.writeWord (sound : s.PowerSound) (r : Requester) (word : ApertureWord) (v : Word) :
    (s.writeWord r word v).PowerSound := by
  cases word with
  | setting which => exact sound.writeSetting r which v
  | command => exact sound.commandWrite r _ _
  | config field => exact sound.configWrite r field v
  | consumer => exact sound.consumerWrite r v
  | _ => exact sound.of_branch rfl rfl

theorem State.PowerSound.apertureGate (sound : s.PowerSound) (r : Requester) {f : State → State}
    (effect : (f s).PowerSound) : (s.apertureGate r f).PowerSound :=
  gate_cases (P := State.PowerSound) (fun _ _ kept => kept.of_branch rfl rfl) sound effect

theorem State.PowerSound.apertureRequest (sound : s.PowerSound) (q : TrunkRequest) : (s.apertureRequest q).PowerSound := by
  unfold State.apertureRequest
  split
  · unfold State.apertureAccess
    split
    · exact sound.of_branch rfl rfl
    · exact sound.apertureGate _ (sound.writeWord _ _ _)
    · exact sound.of_branch rfl rfl
  · exact sound.of_branch rfl rfl

/-! ### Requests -/

/-- 02 R27, R28. -/
theorem State.PowerSound.answerEntry (sound : s.PowerSound) (i : Slot) (e : Entry) (q : TrunkRequest) :
    (s.answerEntry i e q).PowerSound := by
  unfold State.answerEntry
  split
  · exact sound.of_branch rfl rfl
  · split <;> exact sound.of_branch rfl rfl

/-- 06 R110. -/
theorem State.PowerSound.lateDeliver (sound : s.PowerSound) (k : Nat) : (s.lateDeliver k).PowerSound := by
  unfold State.lateDeliver
  split <;> exact sound.of_branch rfl rfl

/-- 02 R30, R31. -/
theorem State.PowerSound.admitDelayed (sound : s.PowerSound) (q : TrunkRequest) (route : Route) :
    (s.admitDelayed q route).PowerSound := by
  unfold State.admitDelayed
  split
  · next i _ =>
    have placed : (s.putEntry i { request := q, route := route, phase := .queued }).PowerSound := sound.of_branch rfl rfl
    exact (placed.enqueue (.entry i)).of_branch rfl rfl
  · exact sound.of_branch rfl rfl

/-- 03 R49, R50. -/
theorem State.PowerSound.admitPosted (sound : s.PowerSound) (q : TrunkRequest) (words : List LaneWord) (route : Route) :
    (s.admitPosted q words route).PowerSound := by
  unfold State.admitPosted
  split
  · have appended : (s.appendPost ⟨q.requester, q.address, words, route⟩).PowerSound := sound.of_branch rfl rfl
    exact (appended.enqueue .posted).of_branch rfl rfl
  · exact sound.of_branch rfl rfl

/-- 08 R144. -/
theorem State.PowerSound.admission (sound : s.PowerSound) (q : TrunkRequest) (w : WindowNo) :
    (s.admission q w).PowerSound := by
  simp only [State.admission]
  split
  · exact sound.of_branch rfl rfl
  · split
    · exact sound.admitDelayed q _
    · split
      · exact sound.admitPosted q _ _
      · exact sound.admitDelayed q _

/-- 08 R142 to R144. -/
theorem State.PowerSound.windowRequest (sound : s.PowerSound) (q : TrunkRequest) : (s.windowRequest q).PowerSound := by
  unfold State.windowRequest
  split
  · exact sound.of_branch rfl rfl
  · split
    · exact sound.of_branch rfl rfl
    · split
      · exact sound.of_branch rfl rfl
      · split
        · exact sound.of_branch rfl rfl
        · exact sound.admission q _

/-- 08 R138 steps 3 to 9. -/
theorem State.PowerSound.matchOrPass (sound : s.PowerSound) (q : TrunkRequest) : (s.matchOrPass q).PowerSound := by
  unfold State.matchOrPass State.reclaimOrWindow
  split
  · exact sound.answerEntry _ _ q
  · split
    · exact sound.lateDeliver _
    · exact sound.windowRequest q

/-- 08 R138: a request through the check sequence. -/
theorem State.PowerSound.present (sound : s.PowerSound) (q : TrunkRequest) : (s.present q).PowerSound := by
  unfold State.present
  split
  · exact sound.of_branch rfl rfl
  · split
    · exact sound.of_branch rfl rfl
    · split
      · exact sound.apertureRequest q
      · exact sound.matchOrPass q

/-! ### Every command -/

/-- A row that has its effect on a condition and else changes nothing. -/
theorem State.PowerSound.ite (sound : s.PowerSound) {u : State} {c : Prop} [Decidable c] (effect : c → u.PowerSound) :
    ∃ t : State, (if c then .next u else .next s : Host.Outcome State Fault Refusal) = .next t ∧ t.PowerSound := by
  split
  · next holds => exact ⟨u, rfl, effect holds⟩
  · exact ⟨s, rfl, sound⟩

/-- A row that an aperture write carries. -/
theorem State.PowerSound.gate (sound : s.PowerSound) (r : Requester) {f : State → State} (effect : (f s).PowerSound) :
    ∃ t : State, (.next (s.apertureGate r f) : Host.Outcome State Fault Refusal) = .next t ∧ t.PowerSound :=
  ⟨_, rfl, sound.apertureGate r effect⟩

/-- 08 R140. -/
theorem execApertureAccessRefused_powerSound (q : TrunkRequest) (sound : s.PowerSound) :
    ∃ t : State, execApertureAccessRefused q s = .next t ∧ t.PowerSound := by
  unfold execApertureAccessRefused
  split
  · exact ⟨_, rfl, sound.of_branch rfl rfl⟩
  · split <;> exact ⟨_, rfl, sound.of_branch rfl rfl⟩

/-- 09 R160: a hard reset puts everything back. -/
theorem execHardReset_powerSound (cause : HardResetCause) (s : State) :
    ∃ t : State, execHardReset cause s = .next t ∧ t.PowerSound := by
  refine ⟨_, rfl, ?_⟩
  rw [State.powerSound_iff]
  exact .running rfl rfl rfl (fun _ => rfl) fun _ interval => absurd rfl interval

/-- Whatever the command, the law on the branch power holds on. -/
theorem exec_powerSound (c : Instr) (sound : s.PowerSound) : ∃ t : State, exec c s = .next t ∧ t.PowerSound := by
  cases c with
  | trunkRequest q => exact ⟨_, rfl, sound.present q⟩
  | apertureWrite r offset v => exact ⟨_, rfl, sound.present _⟩
  | apertureAccessRefused q => exact execApertureAccessRefused_powerSound q sound
  | takeHead => exact execTakeHead_powerSound sound
  | branchAck data => exact execBranchAck_powerSound data sound
  | branchErr => exact ⟨_, rfl, sound.endItem _⟩
  | handshakeLimitExpiry => exact sound.ite fun _ => sound.expireHandshake
  | holdExpiry i => exact sound.ite fun _ => sound.expireHold i
  | warmUpExpiry => exact sound.ite sound.expireWarmUp
  | idleTimerExpiry => exact sound.ite sound.expireIdle
  | recordWrite => exact execRecordWrite_powerSound sound
  | recordWriteDone =>
    exact sound.ite fun _ => sound.of_branch (by simp [State.recordDelivered]) (by simp [State.recordDelivered])
  | recordWriteWait | signalWriteWait => exact sound.ite fun _ => sound.of_branch (by simp) (by simp)
  | recordWriteFault | signalWriteDone | signalWriteFault | hardResetRelease =>
    exact sound.ite fun _ => sound.of_branch rfl rfl
  | abandonedWriteAnswer answer => exact execAbandonedWriteAnswer_powerSound answer sound
  | commit r => exact sound.gate r (sound.takeCommand r 0 .commit)
  | revert r => exact sound.gate r (sound.takeCommand r 0 .revert)
  | unfence r argument => exact sound.gate r (sound.takeCommand r argument .unfence)
  | flush r => exact sound.gate r (sound.flush r)
  | reclaimPop r => exact sound.gate r (sound.takeCommand r 0 .reclaimPop)
  | reclaimClear r => exact sound.gate r (sound.takeCommand r 0 .reclaimClear)
  | noticeStart r => exact sound.gate r (sound.takeCommand r 0 .noticeStart)
  | noticeStop r => exact sound.gate r (sound.takeCommand r 0 .noticeStop)
  | park r => exact sound.gate r (sound.park r)
  | wake r => exact sound.gate r (sound.wake r)
  | branchAbort r => exact sound.gate r (sound.branchAbort r)
  | timeSet r => exact sound.gate r (sound.takeCommand r 0 .timeSet)
  | bridgeReset r => exact sound.gate r (s.bridgeReset_powerSound r)
  | unknownCommand r code => exact sound.gate r (sound.commandWrite r code 0)
  | requesterQuotaWrite r v => exact sound.gate r (sound.writeSetting r .requesterQuota v)
  | holdLimitWrite r v => exact sound.gate r (sound.writeSetting r .holdLimit v)
  | managementWriteMaskWrite r v => exact sound.gate r (sound.writeSetting r .writeMask v)
  | warmUpWrite r v => exact sound.gate r (sound.writeSetting r .warmUp v)
  | autoParkIntervalWrite r v => exact sound.gate r (sound.writeSetting r .autoPark v)
  | noticeConfigurationWrite r field v => exact sound.gate r (sound.configWrite r field v)
  | consumerCounterWrite r v => exact sound.gate r (sound.consumerWrite r v)
  | hardReset cause => exact execHardReset_powerSound cause s

end

/-- Settles O12: in each power state, by what each event does to the power, the items and the two timers. -/
theorem stepKeepsPowerSound : Obligations.StepKeepsPowerSound := by
  intro s t sound step
  refine step_keeps State.PowerSound (fun _ _ kept => kept.of_branch rfl rfl) (fun c u v kept run => ?_)
    (fun _ kept => kept.elapse 1) sound step
  obtain ⟨w, took, held⟩ := exec_powerSound c kept
  obtain rfl : w = v := by rw [took] at run; injection run
  exact held

end Sys2Proof.Machine
